-- ==== Sys2Proof/Word.lean ====
section
/-!
DEFINITION. The word types of the block (spec 00_scope.md R8, 41_codec.md R160) and nothing else: bit 0 is the least
significant bit of every word, and a signed word of width w stands for its two's complement integer, `BitVec.toInt`.
-/

namespace Sys2Proof

/-- One byte of the calibration image (R60). -/
abbrev Byte := BitVec 8

/-- A 16-bit word: a payload, a wire value, a data word of a response (R93, R103). -/
abbrev Word16 := BitVec 16

/-- A 32-bit word: a command's argument, ALPHA, a period, the canonical word CW (R31, R99, R164). -/
abbrev Word32 := BitVec 32

/-- A Number (R160): a signed fixed-point value of NUM_W = 32 bits with NUM_F fractional bits. The word `n` stands for
the real number `n.toInt / 2 ^ NUM_F`. -/
abbrev Number := BitVec 32

/-- A wire frame (R90): 20 bits, channel in bits 19:16 and payload in bits 15:0. -/
abbrev Frame := BitVec 20

/-- A host command word (R99): 40 bits, op in bits 39:32 and arg in bits 31:0. -/
abbrev CommandWord := BitVec 40

/-- A line sample as two bits (opcode table, row LINE): bit 1 is the clock level, bit 0 the data level. -/
abbrev LineWord := BitVec 2

end Sys2Proof
end

