-- ==== Sys2Proof/Config.lean ====
section
/-!
DEFINITION. The implementation parameters of the block (spec 00_scope.md R7). The fixed ones are written where they are
used; the four named ones are the fields of `Params`, which State carries so that every rule is stated for every value.
-/

namespace Sys2Proof

/-- Where the decode agent observes a stop request (R7, R221): after every handled frame, or only when the expectation
is back at FORCE_X. -/
inductive StopObserve where
  | frame
  | revolution
  deriving DecidableEq, Repr

/-- The named parameters of R7. -/
structure Params where
  /-- NUM_F, the fractional bits of a Number. -/
  numF : Nat
  /-- FS_HZ, the revolutions per second that SET_FILTER assumes. -/
  fsHz : Nat
  /-- N_PROBE, the samples taken by IS_CONNECTED. -/
  nProbe : Nat
  /-- STOP_OBSERVE. -/
  stopObserve : StopObserve
  deriving DecidableEq, Repr

/-- The legal values of R7: NUM_F in 15..31, FS_HZ a positive integer, N_PROBE at least 2. -/
abbrev Params.Legal (p : Params) : Prop :=
  15 ≤ p.numF ∧ p.numF ≤ 31 ∧ 1 ≤ p.fsHz ∧ 2 ≤ p.nProbe

/-- FS_HZ less one, for the block at reset: R7 leaves FS_HZ open, so nothing says which number this is
(DESIGN CHOICE, log 3). -/
opaque Config.fsHzLessOne : Nat

/-- N_PROBE less two, for the block at reset: R7 leaves N_PROBE open, so nothing says which number this is
(DESIGN CHOICE, log 3). -/
opaque Config.nProbeLessTwo : Nat

/-- The parameters the state after reset carries: R7's default where it prints one, an open value where it prints none
(DESIGN CHOICE, log 3). -/
def Config.params : Params :=
  { numF := 31
    fsHz := Config.fsHzLessOne + 1
    nProbe := Config.nProbeLessTwo + 2
    stopObserve := .frame }

end Sys2Proof
end

