-- ==== Sys2Proof/Machine/State.lean ====
section
/-!
DEFINITION. The machine's state as plain data: every register of spec 10_state.md (R21 to R47) and, marked as such, the
model's own fields; its value after the Reset event (R50); and the reasons a step could stop, of which the spec has none.
-/

namespace Sys2Proof.Machine

/-- The six axes in channel order (R91): FORCE_X is channel 1 and MOMENT_Z channel 6. -/
inductive Axis where
  | forceX
  | forceY
  | forceZ
  | momentX
  | momentY
  | momentZ
  deriving DecidableEq, Repr

/-- One value per axis (N_AXES = 6, R7), in the order of the slots 0 to 5 (R70). -/
structure Six (α : Type) where
  forceX : α
  forceY : α
  forceZ : α
  momentX : α
  momentY : α
  momentZ : α
  deriving DecidableEq, Repr

/-- The step of `await_frame` the frame decoder is in (R21). -/
inductive Phase where
  | idle
  | armed
  | pulse
  | fall
  | rise
  deriving DecidableEq, Repr

/-- ControllerState (R36). -/
inductive ControllerState where
  | uninitialized
  | ready
  deriving DecidableEq, Repr

/-- Which consumption mode was started (R37). -/
inductive Mode where
  | none
  | sync
  | async
  deriving DecidableEq, Repr

/-- What follows a stop sequence (R47, R272); START_ASYNC carries its period, the sequencer's `arg` (log 13). -/
inductive AfterStop where
  | done
  | parse
  | startSync
  | startAsync (period : Word32)
  deriving DecidableEq, Repr

/-- The command sequencer (R47). -/
inductive Sequencer where
  | none
  | stopping (after : AfterStop)
  | parse
  | probe
  deriving DecidableEq, Repr

/-- The status of a response (R104). -/
inductive Status where
  | ok
  | notInitialized
  | notRunning
  | illegalCommand
  deriving DecidableEq, Repr

/-- A record on an output port (R6): a response with its status and data words (R103), or a push (R105). -/
inductive Output where
  | resp (status : Status) (words : List Word16)
  | push (words : List Word16)
  deriving DecidableEq, Repr

/-- An event of R6, as it reaches the block: a line sample, a command word, the end of an async wait, or Reset. -/
inductive Event where
  | line (w : LineWord)
  | command (w : CommandWord)
  | tick
  | reset
  deriving DecidableEq, Repr

/-- The calibration image (R41, R60) as a list of (address, byte) pairs, addresses strictly rising, no pair holding
what an unlisted address reads as. -/
abbrev Memory := List Host.Cell

/-- What an address that the list does not hold reads as: R50 gives the image the value 0 at reset (log 10). -/
def Memory.unlisted : Byte := 0

/-- The canonical form of the image: addresses strictly rise, lie in 0..255 (R60), and no listed byte is the
unlisted one. -/
abbrev Memory.wf (m : Memory) : Prop :=
  m.Pairwise (fun x y => x.1 < y.1) ∧ ∀ x ∈ m, x.1 < 256 ∧ x.2 ≠ Memory.unlisted

/-- The block's state. -/
structure State where
  /-- R21: the frame decoder's phase. -/
  phase : Phase
  /-- R22: the index of the frame bit the next rising clock edge fills. -/
  bit : Fin 20
  /-- R23: the frame accumulator. -/
  acc : Frame
  /-- R24: the axis channel the decode loop expects next. -/
  expect : Axis
  /-- R25: the raw slots. -/
  raw : Six Number
  /-- R26: the DecoupledSample. -/
  dec : Six Number
  /-- R27: the FilteredSample. -/
  fil : Six Number
  /-- R28: the zero-offset snapshot. -/
  off : Six Number
  /-- R29: the decode agent's latched copy of ALPHA. -/
  alphaL : Word32
  /-- R30: the six values of the SharedSample. -/
  shared : Six Number
  /-- R30: the frame counter, which counts completed revolutions. -/
  counter : Word16
  /-- R31: ALPHA, 31 fractional bits. -/
  alpha : Word32
  /-- R32: CUTOFF. -/
  cutoff : Word16
  /-- R33: PERIOD. -/
  period : Word32
  /-- R33: the async agent's latched copy of PERIOD. -/
  periodL : Word32
  /-- R34: a zero-offset capture is pending. -/
  zeroPending : Bool
  /-- R35: the shared stop flag. -/
  stopReq : Bool
  /-- R36: `state`, the ControllerState. -/
  ctl : ControllerState
  /-- R37: the consumption mode. -/
  mode : Mode
  /-- R38: the decode loop is running. -/
  decActive : Bool
  /-- R39: the async agent is running. -/
  asyncActive : Bool
  /-- R41: the calibration image. -/
  img : Memory
  /-- R42: the coefficient table, by output axis and then input axis. -/
  coef : Six (Six Number)
  /-- R43: the calibration bytes accepted in the parse in progress. -/
  calCount : Nat
  /-- R44: the address of the previously accepted calibration byte. -/
  calLast : Byte
  /-- R45: the full-scale table. -/
  fs : Six Word16
  /-- R47: the command sequencer. -/
  seq : Sequencer
  /-- R47: the samples the probe has taken. -/
  probeN : Nat
  /-- R47: the clock level of the probe's previous sample. -/
  probeLast : Bool
  /-- The MODEL's own field: the parameters of R7, which no step writes (log 3). -/
  cfg : Params
  /-- The MODEL's own field: the events that arrive next, the first at the head (log 1). -/
  input : List Event
  /-- The MODEL's own field: the records emitted so far, the oldest at the head (log 2). -/
  out : List Output
  deriving DecidableEq, Repr

/-- No step stops with a fault: "Nothing in the block raises anything" (R300). The type has no constructor, so a fault
cannot be written down (safe: R300 says every event in every state has a next state). -/
inductive Fault where
  deriving DecidableEq, Repr

/-- No step refuses: the one constructor is the interface's, for an instruction without a meaning, and every
instruction has one, so nothing raises it (safe). -/
inductive Refusal where
  | notModelled (mnemonic : String)
  deriving DecidableEq, Repr

/-- What a meaning answers. -/
abbrev Result := Host.Outcome State Fault Refusal

/-- Six equal values. -/
def Six.fill {α : Type} (x : α) : Six α := ⟨x, x, x, x, x, x⟩

/-- The state after Reset: the table of R50, the parameters of `Config.params`, no event waiting, nothing emitted. -/
def State.reset : State :=
  { phase := .idle
    bit := 19
    acc := 0
    expect := .forceX
    raw := Six.fill 0
    dec := Six.fill 0
    fil := Six.fill 0
    off := Six.fill 0
    alphaL := 0x80000000
    shared := Six.fill 0
    counter := 0
    alpha := 0x80000000
    cutoff := 0
    period := 0
    periodL := 0
    zeroPending := false
    stopReq := false
    ctl := .uninitialized
    mode := .none
    decActive := false
    asyncActive := false
    img := []
    coef := Six.fill (Six.fill 0)
    calCount := 0
    calLast := 0
    fs := Six.fill 0
    seq := .none
    probeN := 0
    probeLast := false
    cfg := Config.params
    input := []
    out := [] }

end Sys2Proof.Machine
end

