-- ==== Sys2Proof/Machine/Operands.lean ====
section
/-!
DEFINITION. The operand forms of the block: the arithmetic primitives of spec 00_scope.md R10, the fixed-point codec of
41_codec.md (R160 to R175) that turns wire words and calibration pairs into Numbers and back, the little-endian word of
the image (20_memory.md R63), and the output formats of 30_encoding.md (R103 to R105). Every intermediate result is an
exact integer (R161); a result enters a register only through a saturation.
-/

namespace Sys2Proof.Machine

/-! ## Arithmetic primitives (R10) -/

/-- `sat32` of R10. -/
def sat32 (x : Int) : Int :=
  if x < -(2 ^ 31) then -(2 ^ 31) else if 2 ^ 31 - 1 < x then 2 ^ 31 - 1 else x

/-- `sat16` of R10. -/
def sat16 (x : Int) : Int :=
  if x < -(2 ^ 15) then -(2 ^ 15) else if 2 ^ 15 - 1 < x then 2 ^ 15 - 1 else x

/-- `floor_shift(x, k)` of R10: the floor of `x * 2^k`, for `k` of either sign. -/
def floorShift (x : Int) (k : Int) : Int :=
  match k with
  | .ofNat n => x * ((2 ^ n : Nat) : Int)
  | .negSucc n => x / ((2 ^ (n + 1) : Nat) : Int)

/-- A Number register takes an integer only through `sat32` (R161 (d)). -/
def toNumber (x : Int) : Number := BitVec.ofInt 32 (sat32 x)

/-- A 16-bit wire word takes an integer only through `sat16` (R161 (d)). -/
def toWire (x : Int) : Word16 := BitVec.ofInt 16 (sat16 x)

/-! ## Normalising a live reading (R162, R163) -/

/-- The number of consecutive 0 bits of `t` from bit `n - 1` down. -/
def leadingZeros (t : Word16) : Nat → Nat
  | 0 => 0
  | n + 1 => if t.getLsbD n then 0 else leadingZeros t n + 1

/-- `clz16` (R162): 16 for zero. -/
def clz16 (t : Word16) : Nat := leadingZeros t 16

/-- The left shift `s` of R163 that brings the leading differing bit to bit 14. -/
def normShift (v : Word16) : Nat := clz16 (if v.msb then ~~~v else v) - 1

/-- `normalize` (R163): the mantissa and the exponent of a raw wire value. -/
def normalizeRaw (v : Word16) : Word16 × Int := (v <<< normShift v, -(normShift v : Int))

/-! ## The bit-exact packing rule (R164 to R166) -/

/-- `pack(e, m)` (R164): the magnitude is the mantissa negated in 16 bits when negative and then masked to 14 bits; the
exponent field is `(e + 126) mod 256`. -/
def pack (e : Int) (m : Word16) : Word32 :=
  BitVec.ofBool m.msb ++ BitVec.ofInt 8 (e + 126) ++ (if m.msb then -m else m).extractLsb' 0 14 ++ 0#9

/-- The signed significand `(-1)^s * (2^23 + frac)` of a canonical word (R165). -/
def cwSignificand (w : Word32) : Int :=
  let magnitude : Int := 2 ^ 23 + ((w.extractLsb' 0 23).toNat : Int)
  if w.msb then -magnitude else magnitude

/-- The exponent field E of a canonical word less 150 (R165). -/
def cwExponent (w : Word32) : Int := ((w.extractLsb' 23 8).toNat : Int) - 150

/-- `cw_value` (R165): the real number a canonical word stands for, for every exponent field. -/
def cwValue (w : Word32) : Rat :=
  match cwExponent w with
  | .ofNat n => (cwSignificand w : Rat) * (2 ^ n : Nat)
  | .negSucc n => (cwSignificand w : Rat) / (2 ^ (n + 1) : Nat)

/-- `cw_to_num` (R166) at NUM_F = `numF`: the value scaled, rounded toward minus infinity, saturated. -/
def cwToNum (numF : Nat) (w : Word32) : Number :=
  toNumber (floorShift (cwSignificand w) (cwExponent w + numF))

/-! ## The contract functions (R167 to R169) and validity (R170) -/

/-- `decode_raw` (R167). -/
def decodeRaw (numF : Nat) (v : Word16) : Number :=
  cwToNum numF (pack (normalizeRaw v).2 (normalizeRaw v).1)

/-- `decode_cal` (R168): no normalisation, no refusal. -/
def decodeCal (numF : Nat) (mantissa : Word16) (exponent : Int) : Number :=
  cwToNum numF (pack exponent mantissa)

/-- `encode` (R169), the codec's inverse for outbound delivery. -/
def encodeNumber (numF : Nat) (n : Number) : Word16 :=
  toWire (floorShift n.toInt (-((numF : Int) - 15)))

/-- A mantissa is normalised when bit 14 differs from bit 15 (R170). -/
def normalised (m : Word16) : Bool := m.getLsbD 14 != m.getLsbD 15

/-- A calibration pair is valid (R170). -/
def validPair (m : Word16) (e : Int) : Bool :=
  normalised m && m != 0x8000 && decide (-126 ≤ e) && decide (e ≤ 127)

/-- The fifteen raw values that do not round-trip, the negative powers of two -2^k / 2^15 for k = 15 down to 1
(R172 (b)). -/
def halvedRaw (v : Word16) : Bool :=
  [0x8000, 0xC000, 0xE000, 0xF000, 0xF800, 0xFC00, 0xFE00, 0xFF00,
    0xFF80, 0xFFC0, 0xFFE0, 0xFFF0, 0xFFF8, 0xFFFC, 0xFFFE].contains v

/-! ## The smoothing coefficient (R175) -/

/-- TWO_PI_Q28 (R7): 2 pi as an integer over 2^28. -/
def twoPiQ28 : Nat := 1686629713

/-- `alpha_of(c)` (R175) at FS_HZ = `fsHz`. -/
def alphaOf (fsHz : Nat) (c : Word16) : Word32 :=
  if c = 0 then 0x80000000
  else
    let n := twoPiQ28 * c.toNat
    let d := 100 * fsHz * 2 ^ 28
    BitVec.ofNat 32 (2 ^ 31 * n / (n + d))

/-! ## The axes and the six-fold tables (R60, R70) -/

/-- The slot of an axis, its channel code less one (R70). -/
def Axis.slot : Axis → Nat
  | .forceX => 0
  | .forceY => 1
  | .forceZ => 2
  | .momentX => 3
  | .momentY => 4
  | .momentZ => 5

/-- The channel code of an axis (R91). -/
def Axis.channel : Axis → BitVec 4
  | .forceX => 1
  | .forceY => 2
  | .forceZ => 3
  | .momentX => 4
  | .momentY => 5
  | .momentZ => 6

/-- The entry of a table at an axis. -/
def Six.get {α : Type} (t : Six α) : Axis → α
  | .forceX => t.forceX
  | .forceY => t.forceY
  | .forceZ => t.forceZ
  | .momentX => t.momentX
  | .momentY => t.momentY
  | .momentZ => t.momentZ

/-- The table with one entry replaced. -/
def Six.set {α : Type} (t : Six α) (a : Axis) (x : α) : Six α :=
  match a with
  | .forceX => { t with forceX := x }
  | .forceY => { t with forceY := x }
  | .forceZ => { t with forceZ := x }
  | .momentX => { t with momentX := x }
  | .momentY => { t with momentY := x }
  | .momentZ => { t with momentZ := x }

/-- The table of a function of the axis. -/
def Six.ofFn {α : Type} (f : Axis → α) : Six α :=
  ⟨f .forceX, f .forceY, f .forceZ, f .momentX, f .momentY, f .momentZ⟩

/-- The six entries in slot order. -/
def Six.toList {α : Type} (t : Six α) : List α :=
  [t.forceX, t.forceY, t.forceZ, t.momentX, t.momentY, t.momentZ]

/-! ## The image (R60 to R64) -/

/-- The byte of the image at an address. -/
def Memory.read : Memory → Nat → Byte
  | [], _ => Memory.unlisted
  | (b, w) :: m, a => if a = b then w else Memory.read m a

/-- The image with one byte replaced, in canonical form. -/
def Memory.write : Memory → Nat → Byte → Memory
  | [], a, v => if v = Memory.unlisted then [] else [(a, v)]
  | (b, w) :: m, a, v =>
    if a < b then (if v = Memory.unlisted then (b, w) :: m else (a, v) :: (b, w) :: m)
    else if a = b then (if v = Memory.unlisted then m else (a, v) :: m)
    else (b, w) :: Memory.write m a v

/-- The 16-bit value at an offset of the image, little-endian (R63). -/
def Memory.word16 (m : Memory) (o : Nat) : Word16 := m.read (o + 1) ++ m.read o

/-- The coefficient of output axis `i` and input axis `j` that the image holds (R64, R97, R205). -/
def extractCoef (numF : Nat) (m : Memory) (i j : Axis) : Number :=
  let o := 10 + 20 * i.slot + 3 * j.slot
  decodeCal numF (m.word16 o) (m.read (o + 2)).toInt

/-- The full-scale value of axis `i` that the image holds (R64, R98, R206). -/
def extractFullScale (m : Memory) (i : Axis) : Word16 := m.word16 (28 + 20 * i.slot)

/-! ## Output formats (R103 to R105) -/

/-- The status codes (R104). -/
def Status.code : Status → Byte
  | .ok => 0
  | .notInitialized => 1
  | .notRunning => 2
  | .illegalCommand => 3

/-- The code of `state` that GET_STATE returns (R36, R270). -/
def ControllerState.code : ControllerState → Word16
  | .uninitialized => 0
  | .ready => 1

/-- The sample record (R105): the six values through the codec's inverse, in axis order, then the counter. -/
def sampleRecord (s : State) : List Word16 :=
  (s.shared.toList.map (encodeNumber s.cfg.numF)) ++ [s.counter]

/-- Data word `k` of a response, 0 where it is absent (R103). -/
def dataWord (words : List Word16) (k : Nat) : Word16 := words.getD k 0

/-- The response as the fixed 120-bit word of R103. -/
def responseWord (status : Status) (words : List Word16) : BitVec 120 :=
  status.code ++ dataWord words 0 ++ dataWord words 1 ++ dataWord words 2 ++ dataWord words 3 ++
    dataWord words 4 ++ dataWord words 5 ++ dataWord words 6

end Sys2Proof.Machine
end

