-- ==== Sys2Proof/Machine/Flags.lean ====
section
/-!
DEFINITION. The block's flags and the conditions computed from them. It has no arithmetic flags: its flags are the two
request bits `zero_pending` (spec 10_state.md R34) and `stop_req` (R35), the run bits `dec_active` and `async_active`
(R38, R39), and the conditions that the guards and the loop top test on them (R131, R221, R260, R261).
-/

namespace Sys2Proof.Machine

/-- An agent is running: the condition on which a stop sequence waits and a START restarts (R265, R272). -/
def running (s : State) : Bool := s.decActive || s.asyncActive

/-- A frame consumer is active, so the frame decoder takes a step (R131). -/
def consumerActive (s : State) : Bool := decide (s.seq = .parse) || s.decActive

/-- The decode agent observes a stop request at its loop top, the expectation being the new one (R221). -/
def observesStop (s : State) : Bool :=
  s.stopReq && (decide (s.cfg.stopObserve = .frame) || decide (s.expect = .forceX))

/-- Flag effect of CALIBRATE (R264): a zero-offset capture is requested. -/
def requestZero (s : State) : State := { s with zeroPending := true }

/-- Flag effect of the beginning of a stop sequence (R272): the request is raised when an agent is running. -/
def requestStop (s : State) : State := { s with stopReq := s.stopReq || running s }

/-- Flag effect of the completion of a stop sequence (R272): both requests are dropped. -/
def clearRequests (s : State) : State := { s with stopReq := false, zeroPending := false }

end Sys2Proof.Machine
end

