-- ==== Sys2Proof/Machine/Ops.lean ====
section
/-!
DEFINITION. The named operations that the meanings share: emitting a record (spec 00_scope.md R9), refusing a command
(60_exceptions.md R301, R307: what the block has in the place of taking an exception), the command port and its guards
(R260, R261), the start of a parse (R200), the start procedure (R273), the stop sequence (R272) and the async agent's
push (R274).
-/

namespace Sys2Proof.Machine

/-! ## Output ports -/

/-- Emit one record (R9). -/
def emit (o : Output) (s : State) : State := { s with out := s.out ++ [o] }

/-- `emit Resp(status, words)` (R103). -/
def emitResp (status : Status) (words : List Word16) (s : State) : State := emit (.resp status words) s

/-- `emit Push(record)` with the sample record of the state at this step (R105, R274). -/
def emitPush (s : State) : State := emit (.push (sampleRecord s)) s

/-! ## Refusing a command, and the command port -/

/-- What the block does in the place of taking an exception (R300, R301, R307): the status with no data words, and
nothing else. There is no handler to enter and nothing to return from (R309). -/
def refuse (status : Status) (s : State) : State := emitResp status [] s

/-- A command takes effect only while the command port is idle (R260). Presented while the port is busy it is no event
of the block: no response and no state change (I9; log 5). -/
def onPort (f : State → State) (s : State) : State :=
  if s.seq = .none then f s else s

/-- The guard of R261 (3): while UNINITIALIZED the command is answered NOT_INITIALIZED. -/
def guarded (f : State → State) (s : State) : State :=
  onPort (fun s =>
    match s.ctl with
    | .uninitialized => refuse .notInitialized s
    | .ready => f s) s

/-! ## Starting -/

/-- A parse starts (R200). -/
def startParse (s : State) : State :=
  { s with ctl := .uninitialized, calCount := 0, phase := .idle, seq := .parse }

/-- The start procedure with mode `m` (R273). -/
def startProcedure (m : Mode) (s : State) : State :=
  { s with
    expect := .forceX
    fil := Six.fill 0
    off := Six.fill 0
    alphaL := s.alpha
    phase := .idle
    decActive := true
    mode := m }

/-- The end of START_SYNC (R265): the start procedure, then `seq <- NONE` and the response. -/
def finishStartSync (s : State) : State :=
  emitResp .ok [] { startProcedure .sync s with seq := .none }

/-- The async agent starts with period `p` (R266). -/
def startAsyncAgent (p : Word32) (s : State) : State :=
  { startProcedure .async s with period := p, periodL := p, asyncActive := true }

/-- The end of START_ASYNC (R266): the start procedure, the period, the async agent's first push, then `seq <- NONE`
and the response. -/
def finishStartAsync (p : Word32) (s : State) : State :=
  emitResp .ok [] { emitPush (startAsyncAgent p s) with seq := .none }

/-! ## The stop sequence (R272) -/

/-- `complete`, first lines: the shared state is cleared. -/
def clearShared (s : State) : State :=
  { clearRequests s with mode := .none, shared := Six.fill 0, counter := 0 }

/-- `complete`: the shared state is cleared and what `after` says follows. -/
def stopComplete (after : AfterStop) (s : State) : State :=
  match after with
  | .done => emitResp .ok [] { clearShared s with seq := .none }
  | .parse => startParse (clearShared s)
  | .startSync => finishStartSync (clearShared s)
  | .startAsync p => finishStartAsync p (clearShared s)

/-- `check`: a stop sequence completes once both agents have exited; otherwise it waits. -/
def stopCheck (s : State) : State :=
  match s.seq with
  | .stopping after => if running s then s else stopComplete after s
  | .none => s
  | .parse => s
  | .probe => s

/-- `begin`: the sequencer waits for the agents, the stop request is raised if one is running, and the check is made. -/
def stopBegin (after : AfterStop) (s : State) : State :=
  stopCheck { requestStop s with seq := .stopping after }

/-! ## The async agent (R274) -/

/-- A Tick: the async agent exits on a stop request, else refreshes its period and pushes. While it is not active a
Tick is no event of the block (I11; log 6). -/
def takeTick (s : State) : State :=
  if s.asyncActive then
    if s.stopReq then stopCheck { s with asyncActive := false }
    else emitPush { s with periodL := s.period }
  else s

/-! ## Reset (R340) -/

/-- The Reset event: every register takes the value of R50, a command in progress is abandoned, no output. The model's
own fields are not registers and stay (log 14). -/
def takeReset (s : State) : State :=
  { State.reset with cfg := s.cfg, input := s.input, out := s.out }

end Sys2Proof.Machine
end

