-- ==== Sys2Proof/Machine/Commands.lean ====
section
/-!
DEFINITION. The meaning of the ten host commands at the command port (spec 44_controller_commands.md R260 to R271), one
definition each, and of a command word whose op names none (30_encoding.md R106). What a command that waits does later is
in the operations it starts: the stop sequence (Ops), the parser (Frames) and the probe (Line).
-/

namespace Sys2Proof.Machine

/-- START_SYNC and START_ASYNC while an agent is running go through the stop sequence first (R265, R266, R305). -/
def restart (after : AfterStop) (start : State → State) (s : State) : State :=
  if running s then stopBegin after s else start s

/-- INITIALIZE (R262): the stop sequence, then the parse. No guard. -/
def execInitialize (_arg : Word32) (s : State) : Result :=
  .next (onPort (stopBegin .parse) s)

/-- SET_FILTER (R263). -/
def execSetFilter (_unused cutoff : Word16) (s : State) : Result :=
  .next (guarded (fun s =>
    emitResp .ok [] { s with cutoff := cutoff, alpha := alphaOf s.cfg.fsHz cutoff }) s)

/-- CALIBRATE (R264). -/
def execCalibrate (_arg : Word32) (s : State) : Result :=
  .next (guarded (fun s => emitResp .ok [] (requestZero s)) s)

/-- START_SYNC (R265). -/
def execStartSync (_arg : Word32) (s : State) : Result :=
  .next (guarded (restart .startSync finishStartSync) s)

/-- START_ASYNC (R266). -/
def execStartAsync (period : Word32) (s : State) : Result :=
  .next (guarded (restart (.startAsync period) (finishStartAsync period)) s)

/-- STOP (R267). -/
def execStop (_arg : Word32) (s : State) : Result :=
  .next (guarded (stopBegin .done) s)

/-- ACQUIRE (R268). -/
def execAcquire (_arg : Word32) (s : State) : Result :=
  .next (guarded (fun s =>
    if s.decActive then emitResp .ok (sampleRecord s) s else refuse .notRunning s) s)

/-- GET_FULL_SCALES (R269). -/
def execGetFullScales (_arg : Word32) (s : State) : Result :=
  .next (guarded (fun s => emitResp .ok s.fs.toList s) s)

/-- GET_STATE (R270). No guard. -/
def execGetState (_arg : Word32) (s : State) : Result :=
  .next (onPort (fun s => emitResp .ok [s.ctl.code] s) s)

/-- IS_CONNECTED at the port (R271). No guard. -/
def execIsConnected (_arg : Word32) (s : State) : Result :=
  .next (onPort (fun s => { s with seq := .probe, probeN := 0 }) s)

/-- A command word whose op names no command (R106, R261 (2)). -/
def illegalCommand (s : State) : State := onPort (refuse .illegalCommand) s

end Sys2Proof.Machine
end

