-- ==== Sys2Proof/Syntax.lean ====
section
/-!
DEFINITION. The instructions of the block, one constructor per row of spec/opcode_table.json. R4 says what an
instruction is here: one line sample, one completed frame (one row per channel code), or one host command. Operand bits
that the spec says are ignored are kept as operands, so that no bit of an encoding is lost (DESIGN CHOICE, log 8).
-/

namespace Sys2Proof

inductive Instr where
  /-- VOLTAGE, channel 0 (R223): the payload is ignored. -/
  | voltage (payload : Word16)
  /-- FORCE_X, channel 1 (R224). -/
  | forceX (payload : Word16)
  /-- FORCE_Y, channel 2 (R225). -/
  | forceY (payload : Word16)
  /-- FORCE_Z, channel 3 (R226). -/
  | forceZ (payload : Word16)
  /-- MOMENT_X, channel 4 (R227). -/
  | momentX (payload : Word16)
  /-- MOMENT_Y, channel 5 (R228). -/
  | momentY (payload : Word16)
  /-- MOMENT_Z, channel 6 (R229). -/
  | momentZ (payload : Word16)
  /-- CALIBRATION, channel 7 (R230, R94). -/
  | calibration (address : Byte) (value : Byte)
  /-- RESERVED_8_15, channels 8 to 15 (R231, R92): channel code and ignored payload. -/
  | reserved (channel : BitVec 4) (payload : Word16)
  /-- INITIALIZE, op 0x01 (R262): arg ignored. -/
  | initializeCmd (arg : Word32)
  /-- SET_FILTER, op 0x02 (R263, R101): arg[31:16] ignored, cutoff = arg[15:0]. -/
  | setFilter (unused : Word16) (cutoff : Word16)
  /-- CALIBRATE, op 0x03 (R264): arg ignored. -/
  | calibrate (arg : Word32)
  /-- START_SYNC, op 0x04 (R265): arg ignored. -/
  | startSync (arg : Word32)
  /-- START_ASYNC, op 0x05 (R266, R102): period = arg[31:0]. -/
  | startAsync (period : Word32)
  /-- STOP, op 0x06 (R267): arg ignored. -/
  | stop (arg : Word32)
  /-- ACQUIRE, op 0x07 (R268): arg ignored. -/
  | acquire (arg : Word32)
  /-- GET_FULL_SCALES, op 0x08 (R269): arg ignored. -/
  | getFullScales (arg : Word32)
  /-- GET_STATE, op 0x09 (R270): arg ignored. -/
  | getState (arg : Word32)
  /-- IS_CONNECTED, op 0x0A (R271, R143): arg ignored. -/
  | isConnected (arg : Word32)
  /-- LINE, one sample of the two lines (R138): clock level and data level, high is true. -/
  | line (clock : Bool) (data : Bool)
  deriving DecidableEq, Repr

end Sys2Proof
end

