-- ==== Sys2Proof/WellFormed.lean ====
section
/-!
DEFINITION. Which terms of `Instr` stand for an instruction of the block. Every operand's width is in its type; the one
relation the types leave open is that a RESERVED_8_15 frame has a channel code of 8 to 15 (spec 30_encoding.md R91, R92).
-/

namespace Sys2Proof

/-- The check, one arm per constructor. -/
def Instr.wellFormed : Instr → Bool
  | .voltage _ => true
  | .forceX _ => true
  | .forceY _ => true
  | .forceZ _ => true
  | .momentX _ => true
  | .momentY _ => true
  | .momentZ _ => true
  | .calibration _ _ => true
  | .reserved channel _ => channel.getLsbD 3
  | .initializeCmd _ => true
  | .setFilter _ _ => true
  | .calibrate _ => true
  | .startSync _ => true
  | .startAsync _ => true
  | .stop _ => true
  | .acquire _ => true
  | .getFullScales _ => true
  | .getState _ => true
  | .isConnected _ => true
  | .line _ _ => true

/-- `i` is an instruction the block can receive. -/
abbrev WellFormed (i : Instr) : Prop := i.wellFormed = true

end Sys2Proof
end

