-- ==== Sys2Proof/Decode.lean ====
section
/-!
DEFINITION. Decoding the three input formats of spec 30_encoding.md (line samples, frames R90 to R95, command words R99
to R102) into instructions, and encoding them back. Decoding is total: what is no instruction is rejected by name.
-/

namespace Sys2Proof

/-- The bits of one instruction, in the format that carries it: opcode table, formats L, F and H. -/
inductive Packet where
  /-- One sample of the two lines. -/
  | line (w : LineWord)
  /-- One completed 20-bit frame. -/
  | frame (w : Frame)
  /-- One 40-bit command word. -/
  | command (w : CommandWord)
  deriving DecidableEq, Repr

/-- Why bits are no instruction of the opcode table. -/
inductive DecodeError where
  /-- The op field names no command (R106): the block answers ILLEGAL_COMMAND. -/
  | illegalCommand (op : Byte)
  /-- No format of the block has this many bits. -/
  | noFormat (nbits : Nat)
  /-- A bit above the format's width is set. -/
  | strayBits (nbits : Nat)
  deriving DecidableEq, Repr

/-- Field `channel = frame[19:16]` (R90). -/
def Frame.channel (f : Frame) : BitVec 4 := f.extractLsb' 16 4

/-- Field `payload = frame[15:0]` (R90). -/
def Frame.payload (f : Frame) : Word16 := f.extractLsb' 0 16

/-- Field `address = frame[15:8]` of a CALIBRATION frame (R94). -/
def Frame.calAddress (f : Frame) : Byte := f.extractLsb' 8 8

/-- Field `value = frame[7:0]` of a CALIBRATION frame (R94). -/
def Frame.calValue (f : Frame) : Byte := f.extractLsb' 0 8

/-- Field `op = word[39:32]` (R99). -/
def CommandWord.op (w : CommandWord) : Byte := w.extractLsb' 32 8

/-- Field `arg = word[31:0]` (R99). -/
def CommandWord.arg (w : CommandWord) : Word32 := w.extractLsb' 0 32

/-- A line sample (opcode table, row LINE): the bits {c, d}. -/
def decodeLine (w : LineWord) : Instr := .line (w.getLsbD 1) (w.getLsbD 0)

/-- A frame, by its channel code (R91, R92): every one of the 2^20 frames is an instruction. -/
def decodeFrame (f : Frame) : Instr :=
  match f.channel.toNat with
  | 0 => .voltage f.payload
  | 1 => .forceX f.payload
  | 2 => .forceY f.payload
  | 3 => .forceZ f.payload
  | 4 => .momentX f.payload
  | 5 => .momentY f.payload
  | 6 => .momentZ f.payload
  | 7 => .calibration f.calAddress f.calValue
  | _ => .reserved f.channel f.payload

/-- A command word, by its op field (R100); op 0x00 and 0x0B to 0xFF are rejected (R106). -/
def decodeCommand (w : CommandWord) : Except DecodeError Instr :=
  match w.op.toNat with
  | 1 => .ok (.initializeCmd w.arg)
  | 2 => .ok (.setFilter (w.extractLsb' 16 16) (w.extractLsb' 0 16))
  | 3 => .ok (.calibrate w.arg)
  | 4 => .ok (.startSync w.arg)
  | 5 => .ok (.startAsync w.arg)
  | 6 => .ok (.stop w.arg)
  | 7 => .ok (.acquire w.arg)
  | 8 => .ok (.getFullScales w.arg)
  | 9 => .ok (.getState w.arg)
  | 10 => .ok (.isConnected w.arg)
  | _ => .error (.illegalCommand w.op)

/-- The decoder, total on every packet. -/
def decode : Packet → Except DecodeError Instr
  | .line w => .ok (decodeLine w)
  | .frame f => .ok (decodeFrame f)
  | .command w => decodeCommand w

/-- The frame `{channel[3:0], payload[15:0]}` (R90). -/
def frameOf (channel : BitVec 4) (payload : Word16) : Frame := channel ++ payload

/-- The command word `{op[7:0], arg[31:0]}` (R99). -/
def commandOf (op : Byte) (arg : Word32) : CommandWord := op ++ arg

/-- The encoder: the bits of each instruction, from the same formats and code tables. -/
def encode : Instr → Packet
  | .voltage p => .frame (frameOf 0 p)
  | .forceX p => .frame (frameOf 1 p)
  | .forceY p => .frame (frameOf 2 p)
  | .forceZ p => .frame (frameOf 3 p)
  | .momentX p => .frame (frameOf 4 p)
  | .momentY p => .frame (frameOf 5 p)
  | .momentZ p => .frame (frameOf 6 p)
  | .calibration a v => .frame (frameOf 7 (a ++ v))
  | .reserved ch p => .frame (frameOf ch p)
  | .initializeCmd a => .command (commandOf 0x01 a)
  | .setFilter u c => .command (commandOf 0x02 (u ++ c))
  | .calibrate a => .command (commandOf 0x03 a)
  | .startSync a => .command (commandOf 0x04 a)
  | .startAsync p => .command (commandOf 0x05 p)
  | .stop a => .command (commandOf 0x06 a)
  | .acquire a => .command (commandOf 0x07 a)
  | .getFullScales a => .command (commandOf 0x08 a)
  | .getState a => .command (commandOf 0x09 a)
  | .isConnected a => .command (commandOf 0x0A a)
  | .line c d => .line (BitVec.ofBool c ++ BitVec.ofBool d)

/-- The packet whose bits are the number `w`, numbered as spec/opcode_table.json numbers them. The number of bits in
whole bytes tells the three formats apart: 8 for a line sample, 24 for a frame, 40 for a command word
(DESIGN CHOICE, log 17). -/
def packetOf (nbits w : Nat) : Except DecodeError Packet :=
  if nbits ≤ 8 then
    if w < 2 ^ 2 then .ok (.line (BitVec.ofNat 2 w)) else .error (.strayBits nbits)
  else if nbits ≤ 24 then
    if w < 2 ^ 20 then .ok (.frame (BitVec.ofNat 20 w)) else .error (.strayBits nbits)
  else if nbits ≤ 40 then
    if w < 2 ^ 40 then .ok (.command (BitVec.ofNat 40 w)) else .error (.strayBits nbits)
  else .error (.noFormat nbits)

/-- The instruction the decoder reads from an opcode-table row's bits, none where it rejects them. -/
def decodeTableWord (nbits w : Nat) : Option Instr :=
  match packetOf nbits w with
  | .error _ => none
  | .ok p =>
    match decode p with
    | .ok i => some i
    | .error _ => none

end Sys2Proof
end

