-- ==== Sys2Proof/Machine/Frames.lean ====
section
/-!
DEFINITION. The meaning of a completed frame, one definition per channel row (spec 43_decode_loop_filter.md R223 to R231
and 42_calibration.md R201 to R206): the parser's rules in parse context, the decode loop's rules in loop context, no
effect where neither consumer is active (R131, R220).
-/

namespace Sys2Proof.Machine

/-! ## The decode loop (R221, R222, R232 to R238) -/

/-- The loop top (R221): ALPHA is latched, and an observed stop request ends the loop and continues the stop
sequence. -/
def loopTop (s : State) : State :=
  if observesStop s then stopCheck { s with alphaL := s.alpha, decActive := false }
  else { s with alphaL := s.alpha }

/-- A sequence break (R222): the expectation is reset and the frame is discarded. -/
def sequenceBreak (s : State) : State := { s with expect := .forceX }

/-- The exact sum of R233 for output axis `i`. -/
def decoupleSum (coef : Six (Six Number)) (raw : Six Number) (i : Axis) : Int :=
  ((coef.get i).get .forceX).toInt * raw.forceX.toInt
    + ((coef.get i).get .forceY).toInt * raw.forceY.toInt
    + ((coef.get i).get .forceZ).toInt * raw.forceZ.toInt
    + ((coef.get i).get .momentX).toInt * raw.momentX.toInt
    + ((coef.get i).get .momentY).toInt * raw.momentY.toInt
    + ((coef.get i).get .momentZ).toInt * raw.momentZ.toInt

/-- Decoupling of output axis `i` (R233). -/
def decoupleAxis (numF : Nat) (coef : Six (Six Number)) (raw : Six Number) (i : Axis) : Number :=
  toNumber (floorShift (decoupleSum coef raw i) (-(numF : Int)))

/-- The filter update of one axis (R234): the smoothing coefficient is a non-negative integer over 2^31. -/
def filterAxis (alphaL : Word32) (old new : Number) : Number :=
  toNumber (old.toInt + floorShift ((alphaL.toNat : Int) * (new.toInt - old.toInt)) (-31))

/-- The published value of one axis (R235). -/
def publishAxis (fil off : Number) : Number := toNumber (fil.toInt - off.toInt)

/-- Decoupling and filter update of the whole revolution (R233, R234). -/
def decoupleAndFilter (s : State) : State :=
  let dec := Six.ofFn (decoupleAxis s.cfg.numF s.coef s.raw)
  { s with
    dec := dec
    fil := Six.ofFn fun a => filterAxis s.alphaL (s.fil.get a) (dec.get a) }

/-- Publish, or service a pending zero-offset request (R235, R236). -/
def publishOrZero (s : State) : State :=
  if s.zeroPending then
    { s with fil := s.dec, off := s.dec, shared := Six.fill 0, zeroPending := false }
  else { s with shared := Six.ofFn fun a => publishAxis (s.fil.get a) (s.off.get a) }

/-- The completion of a revolution (R233 to R238), the raw slots being the new ones. -/
def completeRevolution (s : State) : State :=
  let t := publishOrZero (decoupleAndFilter s)
  { t with counter := t.counter + 1, expect := .forceX }

/-- Storing a decoded axis value (R232). -/
def storeRaw (a : Axis) (payload : Word16) (s : State) : State :=
  { s with raw := s.raw.set a (decodeRaw s.cfg.numF payload) }

/-- Loop context for an axis that is not the last (R222, R232): in sequence the value is stored and `next` is expected,
otherwise the sequence is broken. -/
def loopAxis (a next : Axis) (payload : Word16) (s : State) : State :=
  if s.expect = a then { storeRaw a payload s with expect := next } else sequenceBreak s

/-- Loop context for MOMENT_Z (R222, R229, R232). -/
def loopMomentZ (payload : Word16) (s : State) : State :=
  if s.expect = .momentZ then completeRevolution (storeRaw .momentZ payload s) else sequenceBreak s

/-! ## The parser (R201 to R206) -/

/-- The extraction on the image (R205, R206) and the completion of INITIALIZE (R204). -/
def completeParse (s : State) : State :=
  emitResp .ok []
    { s with
      coef := Six.ofFn fun i => Six.ofFn fun j => extractCoef s.cfg.numF s.img i j
      fs := Six.ofFn fun i => extractFullScale s.img i
      ctl := .ready
      seq := .none }

/-- A calibration byte is accepted: it is the first, or its address follows the previous one modulo 256 (R202). -/
def acceptsByte (address : Byte) (s : State) : Bool :=
  decide (s.calCount = 0) || decide (address = s.calLast + 1)

/-- The stores of an accepted calibration byte (R202). -/
def storeByte (address value : Byte) (s : State) : State :=
  { s with
    img := s.img.write address.toNat value
    calLast := address
    calCount := s.calCount + 1 }

/-- Parse context for a CALIBRATION frame (R202 to R204). -/
def parseByte (address value : Byte) (s : State) : State :=
  if acceptsByte address s then
    let t := storeByte address value s
    if t.calCount = 256 then completeParse t else t
  else s

/-! ## The two contexts (R220) -/

/-- A completed frame goes to the parser if `seq` = PARSE, otherwise to the decode loop if it runs and then to the loop
top (R137, R220, R222); where neither consumer is active nothing happens (R131; log 7). -/
def inContext (parser loop : State → State) (s : State) : State :=
  if s.seq = .parse then parser s
  else if s.decActive then loopTop (loop s)
  else s

/-! ## One meaning per channel row -/

/-- VOLTAGE (R223). -/
def execVoltage (_payload : Word16) (s : State) : Result :=
  .next (inContext id sequenceBreak s)

/-- FORCE_X (R224). -/
def execForceX (payload : Word16) (s : State) : Result :=
  .next (inContext id (loopAxis .forceX .forceY payload) s)

/-- FORCE_Y (R225). -/
def execForceY (payload : Word16) (s : State) : Result :=
  .next (inContext id (loopAxis .forceY .forceZ payload) s)

/-- FORCE_Z (R226). -/
def execForceZ (payload : Word16) (s : State) : Result :=
  .next (inContext id (loopAxis .forceZ .momentX payload) s)

/-- MOMENT_X (R227). -/
def execMomentX (payload : Word16) (s : State) : Result :=
  .next (inContext id (loopAxis .momentX .momentY payload) s)

/-- MOMENT_Y (R228). -/
def execMomentY (payload : Word16) (s : State) : Result :=
  .next (inContext id (loopAxis .momentY .momentZ payload) s)

/-- MOMENT_Z (R229). -/
def execMomentZ (payload : Word16) (s : State) : Result :=
  .next (inContext id (loopMomentZ payload) s)

/-- CALIBRATION (R230). -/
def execCalibration (address value : Byte) (s : State) : Result :=
  .next (inContext (parseByte address value) sequenceBreak s)

/-- RESERVED_8_15 (R231). -/
def execReserved (_channel : BitVec 4) (_payload : Word16) (s : State) : Result :=
  .next (inContext id sequenceBreak s)

end Sys2Proof.Machine
end

