-- ==== Sys2Proof/Machine/Line.lean ====
section
/-!
DEFINITION. The meaning of one line sample (spec 40_frame_decoder.md R130 to R143): the probe, then the frame decoder's
transition, then, if the sample completes a frame, the frame's whole handling (R308).
-/

namespace Sys2Proof.Machine

/-- The probe's look at a sample (R143), before any decoder transition of the same event. -/
def probeSample (c : Bool) (s : State) : State :=
  if s.seq = .probe then
    let n := s.probeN + 1
    if 1 < n ∧ c ≠ s.probeLast then emitResp .ok [1] { s with seq := .none, probeN := n }
    else if n = s.cfg.nProbe then
      emitResp .ok [0] { s with seq := .none, probeN := n, probeLast := c }
    else { s with probeN := n, probeLast := c }
  else s

/-- A frame handed to the active consumer (R137): the meaning of the instruction it decodes to. No frame decodes to one
of the rows that are not frames; those arms change nothing. -/
def handleFrame (f : Frame) (s : State) : Result :=
  match decodeFrame f with
  | .voltage p => execVoltage p s
  | .forceX p => execForceX p s
  | .forceY p => execForceY p s
  | .forceZ p => execForceZ p s
  | .momentX p => execMomentX p s
  | .momentY p => execMomentY p s
  | .momentZ p => execMomentZ p s
  | .calibration a v => execCalibration a v s
  | .reserved ch p => execReserved ch p s
  | .initializeCmd _ => .next s
  | .setFilter _ _ => .next s
  | .calibrate _ => .next s
  | .startSync _ => .next s
  | .startAsync _ => .next s
  | .stop _ => .next s
  | .acquire _ => .next s
  | .getFullScales _ => .next s
  | .getState _ => .next s
  | .isConnected _ => .next s
  | .line _ _ => .next s

/-- `acc[i] <- d` (R136). -/
def setFrameBit (acc : Frame) (i : Fin 20) (d : Bool) : Frame :=
  if d then acc ||| BitVec.twoPow 20 i.val else acc &&& ~~~(BitVec.twoPow 20 i.val)

/-- `bit - 1` for a bit index above 0 (R136). -/
def bitBelow (b : Fin 20) : Fin 20 := ⟨b.val - 1, Nat.lt_of_le_of_lt (Nat.sub_le _ _) b.isLt⟩

/-- A rising clock edge with data level `d` (R136): the bit is captured, and the last one completes the frame, which is
handled in the same step with the decoder back at IDLE (R137). -/
def captureBit (d : Bool) (s : State) : Result :=
  if s.bit = 0 then
    handleFrame (setFrameBit s.acc s.bit d)
      { s with acc := setFrameBit s.acc s.bit d, phase := .idle }
  else
    .next { s with acc := setFrameBit s.acc s.bit d, bit := bitBelow s.bit, phase := .fall }

/-- The decoder's transition on a sample (R132 to R137, table R138). -/
def decoderSample (c d : Bool) (s : State) : Result :=
  match s.phase with
  | .idle => .next (if c && d then { s with phase := .armed } else s)
  | .armed =>
    .next (if c then (if d then s else { s with phase := .pulse }) else { s with phase := .idle })
  | .pulse =>
    .next (if c then (if d then { s with phase := .fall, bit := 19, acc := 0 } else s)
      else { s with phase := .idle })
  | .fall => .next (if c then s else { s with phase := .rise })
  | .rise => if c then captureBit d s else .next s

/-- LINE (R131, R138, R143): the probe sees every sample; the decoder steps only while a frame consumer is active. -/
def execLine (c d : Bool) (s : State) : Result :=
  if consumerActive (probeSample c s) then decoderSample c d (probeSample c s)
  else .next (probeSample c s)

end Sys2Proof.Machine
end

