-- ==== Sys2Proof/Machine/Dispatch.lean ====
section
/-! DEFINITION. From an instruction to its meaning, one arm per constructor of `Instr`. -/

namespace Sys2Proof.Machine

def exec (i : Instr) (s : State) : Host.Outcome State Fault Refusal :=
  match i with
  | .voltage p => Sys2Proof.Machine.execVoltage p s
  | .forceX p => Sys2Proof.Machine.execForceX p s
  | .forceY p => Sys2Proof.Machine.execForceY p s
  | .forceZ p => Sys2Proof.Machine.execForceZ p s
  | .momentX p => Sys2Proof.Machine.execMomentX p s
  | .momentY p => Sys2Proof.Machine.execMomentY p s
  | .momentZ p => Sys2Proof.Machine.execMomentZ p s
  | .calibration a v => Sys2Proof.Machine.execCalibration a v s
  | .reserved ch p => Sys2Proof.Machine.execReserved ch p s
  | .initializeCmd a => Sys2Proof.Machine.execInitialize a s
  | .setFilter u c => Sys2Proof.Machine.execSetFilter u c s
  | .calibrate a => Sys2Proof.Machine.execCalibrate a s
  | .startSync a => Sys2Proof.Machine.execStartSync a s
  | .startAsync p => Sys2Proof.Machine.execStartAsync p s
  | .stop a => Sys2Proof.Machine.execStop a s
  | .acquire a => Sys2Proof.Machine.execAcquire a s
  | .getFullScales a => Sys2Proof.Machine.execGetFullScales a s
  | .getState a => Sys2Proof.Machine.execGetState a s
  | .isConnected a => Sys2Proof.Machine.execIsConnected a s
  | .line c d => Sys2Proof.Machine.execLine c d s

end Sys2Proof.Machine
end

