-- ==== Sys2Proof/Machine/Events.lean ====
section
/-!
DEFINITION. What the step does with the event that arrives (spec 00_scope.md R6), and how an instruction's bits are
placed so that the next step runs them.
-/

namespace Sys2Proof.Machine

/-- The instruction bits an event carries; Tick and Reset carry none. -/
def eventPacket : Event → Option Packet
  | .line w => some (.line w)
  | .command w => some (.command w)
  | .tick => none
  | .reset => none

/-- A line sample or a command word runs the instruction it decodes to; bits that decode to none are a command word
whose op names no command, answered ILLEGAL_COMMAND (R106). -/
def runPacket (p : Packet) (s : State) : Result :=
  match decode p with
  | .ok i => exec i s
  | .error _ => .next (illegalCommand s)

/-- One event (R6). -/
def runEvent (e : Event) (s : State) : Result :=
  match e with
  | .line w => runPacket (.line w) s
  | .command w => runPacket (.command w) s
  | .tick => .next (takeTick s)
  | .reset => .next (takeReset s)

/-- The next event is taken from the queue and run. With no event waiting, the block stays as it is, which is an
ordinary wait and no fault (R139, R304; log 4). -/
def runNext (s : State) : Result :=
  match s.input with
  | [] => .next s
  | e :: rest => runEvent e { s with input := rest }

/-! ## Placing an instruction (log 9) -/

/-- The state with a consumer active for a frame of this channel: as it is where one is; else a parse as INITIALIZE
starts it for a CALIBRATION frame, and the decode loop as START_SYNC starts it for any other. -/
def withConsumer (channel : BitVec 4) (s : State) : State :=
  if consumerActive s then s
  else if channel = 7 then startParse s
  else { startProcedure .sync s with ctl := .ready, seq := .none }

/-- A packet placed so that the very next step runs it: a line sample or a command word as the next event, the command
port being idle; a frame as the last bit of a frame that the decoder is about to complete, with a consumer active. -/
def placePacket (p : Packet) (s : State) : State :=
  match p with
  | .line w => { s with input := .line w :: s.input }
  | .command w => { s with seq := .none, input := .command w :: s.input }
  | .frame f =>
    { withConsumer f.channel s with
      phase := .rise
      bit := 0
      acc := setFrameBit f 0 false
      input := .line (BitVec.ofBool true ++ BitVec.ofBool (f.getLsbD 0)) :: s.input }

/-- An opcode-table row's bits placed so that the very next step runs them; bits of no format place nothing. -/
def placeTableWord (nbits w : Nat) (s : State) : State :=
  match packetOf nbits w with
  | .error _ => s
  | .ok p => placePacket p s

end Sys2Proof.Machine
end

