-- ==== Sys2Proof/Safety.lean ====
section
/-!
DEFINITION. What counts as a good state of the block, and the terms in which statements speak of steps: the invariant
(spec 10_state.md R29 to R47 and its derived facts), runs over sequences of line samples (30_encoding.md R96), and the
view of a state without the registers that the spec says change no step (R32, R33, R37).
-/

namespace Sys2Proof.Machine

/-! ## The invariant -/

/-- The facts that hold of every state the block can be in, whatever events arrive. -/
structure Inv (s : State) : Prop where
  /-- R7: the parameters are legal. -/
  cfg_legal : s.cfg.Legal
  /-- R60: the image is in canonical form. -/
  img_wf : Memory.wf s.img
  /-- R31: ALPHA is in 0..2^31. -/
  alpha_le : s.alpha.toNat ≤ 2 ^ 31
  /-- R29: the latched copy is in 0..2^31. -/
  alphaL_le : s.alphaL.toNat ≤ 2 ^ 31
  /-- R40: `dec_active` implies READY. -/
  dec_ready : s.decActive = true → s.ctl = .ready
  /-- R40: UNINITIALIZED implies that the async agent does not run. -/
  async_ready : s.asyncActive = true → s.ctl = .ready
  /-- R40: `async_active` implies mode ASYNC. -/
  async_mode : s.asyncActive = true → s.mode = .async
  /-- R40, R275: the mode is NONE exactly when neither agent runs. -/
  mode_none : s.mode = .none ↔ running s = false
  /-- R40: a stop request implies that the sequencer is STOPPING. -/
  stop_stopping : s.stopReq = true → ∃ after, s.seq = .stopping after
  /-- R272: a stop sequence that waits has raised the request and waits for an agent. -/
  stopping_waits : ∀ after, s.seq = .stopping after → s.stopReq = true ∧ running s = true
  /-- R200, R204: a parse in progress is UNINITIALIZED and has not 256 bytes yet. -/
  parse_partial : s.seq = .parse → s.ctl = .uninitialized ∧ s.calCount < 256
  /-- R43: `cal_count` is in 0..256. -/
  calCount_le : s.calCount ≤ 256
  /-- R47: `probe_n` is in 0..N_PROBE. -/
  probeN_le : s.probeN ≤ s.cfg.nProbe
  /-- R143: a probe that has taken N_PROBE samples has answered. -/
  probe_waits : s.seq = .probe → s.probeN < s.cfg.nProbe
  /-- R134, R136: while bits are shifted in, the bits not filled yet are 0. -/
  acc_clear : s.phase = .fall ∨ s.phase = .rise →
    ∀ k : Nat, k ≤ s.bit.val → s.acc.getLsbD k = false
  /-- R71 (c), R75 (e): in READY the coefficient table is the one the image holds. -/
  coef_extracted : s.ctl = .ready → ∀ i j : Axis,
    (s.coef.get i).get j = extractCoef s.cfg.numF s.img i j
  /-- R71 (c): in READY the full-scale table is the one the image holds. -/
  fs_extracted : s.ctl = .ready → ∀ i : Axis, s.fs.get i = extractFullScale s.img i
  /-- R273: while nothing runs the sample buffer is zero. -/
  buffer_zero : running s = false → s.shared = Six.fill 0 ∧ s.counter = 0

/-! ## Runs -/

/-- The event of one line sample. -/
def sampleEvent (x : Bool × Bool) : Event := .line (BitVec.ofBool x.1 ++ BitVec.ofBool x.2)

/-- The state with a sequence of line samples arriving next, and nothing after them. -/
def withSamples (xs : List (Bool × Bool)) (s : State) : State :=
  { s with input := xs.map sampleEvent }

/-- The state with a sequence of frames' CALIBRATION instructions run one after the other in parse context. -/
def execAll : List Instr → State → Result
  | [], s => .next s
  | i :: is, s =>
    match exec i s with
    | .next t => execAll is t
    | .fault r => .fault r
    | .refused r => .refused r

/-- The samples of one frame bit in format L (R96): the clock low once and `low.length` times more, with any data
levels, then the clock high with the bit, and, for all but the last bit, high again with any data levels. -/
structure BitShape where
  /-- The data level of the first sample with the clock low. -/
  firstLow : Bool
  /-- The data levels of the further samples with the clock low. -/
  low : List Bool
  /-- The data levels of the further samples with the clock high. -/
  high : List Bool
  deriving DecidableEq, Repr

/-- The samples of bit `k` of frame `f` in the given shape, up to the first sample with the clock high. -/
def bitRise (f : Frame) (k : Nat) (b : BitShape) : List (Bool × Bool) :=
  (b.firstLow :: b.low).map (fun d => (false, d)) ++ [(true, f.getLsbD k)]

/-- The samples of bits `n - 1` down to 0 of frame `f`, ending with the sample that completes the frame. -/
def bitSamples (f : Frame) (shape : Nat → BitShape) : Nat → List (Bool × Bool)
  | 0 => []
  | n + 1 =>
    bitRise f n (shape n) ++
      (if n = 0 then [] else (shape n).high.map (fun d => (true, d)) ++ bitSamples f shape n)

/-- Format L (R96): idle samples, a start pulse, and the twenty bits, each with any repeats. -/
def waveform (idle pulse rest : Nat) (shape : Nat → BitShape) (f : Frame) : List (Bool × Bool) :=
  List.replicate (idle + 1) (true, true) ++ List.replicate (pulse + 1) (true, false) ++
    List.replicate (rest + 1) (true, true) ++ bitSamples f shape 20

/-! ## Views -/

/-- The state without CUTOFF, PERIOD, the latched period and the mode, which the spec says change no step
(R32, R33, R37). -/
def withoutInert (s : State) : State :=
  { s with cutoff := 0, period := 0, periodL := 0, mode := .none }

/-- The responses among records. -/
def isResp : Output → Bool
  | .resp _ _ => true
  | .push _ => false

end Sys2Proof.Machine
end

