-- ==== Sys2Proof/Certificates/Slice0/Obligations.lean ====
section
/-!
DEFINITION. What is claimed of the block: statements about the encodings, the step, the line decoder, the codec, the
parser, the decode loop, the commands and the machine as a whole. Each docstring names the rules of spec/ it formalises.
Numbers are read with `BitVec.toInt` or `BitVec.toNat`; `s.cfg` holds the open parameters of R7, so a statement holds for
every value of them unless it asks for legal ones.
-/

open Sys2Proof Sys2Proof.Machine

/-! ## Encodings -/

/-- R90, R91, R94, R99, R100: the decoder reads back every well-formed instruction that the encoder writes. -/
def Obligations.DecodeReadsBackEncode : Prop :=
  ∀ i : Instr, WellFormed i → decode (encode i) = .ok i

/-- R90, R91, R94, R99, R100: what decodes is well-formed and encodes to the bits it came from, so no bit of a frame, a
command word or a sample is dropped. -/
def Obligations.EncodeReadsBackDecode : Prop :=
  ∀ (p : Packet) (i : Instr), decode p = .ok i → WellFormed i ∧ encode i = p

/-- R106: op 0x00 and 0x0B to 0xFF, and no other, are illegal; at an idle port such a word is answered ILLEGAL_COMMAND
and nothing else changes, in every controller state. -/
def Obligations.IllegalCommandsAnswered : Prop :=
  ∀ w : CommandWord,
    (decodeCommand w = .error (.illegalCommand w.op) ↔ w.op = 0x00 ∨ 0x0B ≤ w.op.toNat) ∧
    ∀ (s : State) (rest : List Event), (w.op = 0x00 ∨ 0x0B ≤ w.op.toNat) →
      s.input = .command w :: rest → s.seq = .none →
      step s = .next { s with input := rest, out := s.out ++ [.resp .illegalCommand []] }

/-- Words written out from R91, R100 and the opcode table decode to the instructions they stand for. -/
def Obligations.WrittenOutWordsDecode : Prop :=
  decodeFrame 0x01234 = .voltage 0x1234 ∧ decodeFrame 0x11234 = .forceX 0x1234 ∧
  decodeFrame 0x2EDCC = .forceY 0xEDCC ∧ decodeFrame 0x58001 = .momentY 0x8001 ∧
  decodeFrame 0x67FFF = .momentZ 0x7FFF ∧ decodeFrame 0x70A55 = .calibration 0x0A 0x55 ∧
  decodeFrame 0xF0000 = .reserved 0xF 0x0000 ∧
  decodeCommand 0x0100000000 = .ok (.initializeCmd 0) ∧
  decodeCommand 0x02000003E8 = .ok (.setFilter 0 1000) ∧
  decodeCommand 0x05000001F4 = .ok (.startAsync 500) ∧
  decodeCommand 0x0A00000000 = .ok (.isConnected 0) ∧
  decodeLine 0b10 = .line true false

/-- R99, I10: the operand bits that a row ignores change nothing that the instruction does. -/
def Obligations.IgnoredBitsChangeNothing : Prop :=
  ∀ (s : State) (a b : Word32) (p q c : Word16) (ch dh : BitVec 4),
    exec (.initializeCmd a) s = exec (.initializeCmd b) s ∧
    exec (.setFilter p c) s = exec (.setFilter q c) s ∧
    exec (.calibrate a) s = exec (.calibrate b) s ∧
    exec (.startSync a) s = exec (.startSync b) s ∧
    exec (.stop a) s = exec (.stop b) s ∧
    exec (.acquire a) s = exec (.acquire b) s ∧
    exec (.getFullScales a) s = exec (.getFullScales b) s ∧
    exec (.getState a) s = exec (.getState b) s ∧
    exec (.isConnected a) s = exec (.isConnected b) s ∧
    exec (.voltage p) s = exec (.voltage q) s ∧
    exec (.reserved ch p) s = exec (.reserved dh q) s

/-- R103, R104: the fixed response word has the status in bits 119:112 and data word k below it, 0 where absent. -/
def Obligations.ResponseWordLayout : Prop :=
  ∀ (st : Status) (ws : List Word16),
    ((responseWord st ws).extractLsb' 112 8 =
      match st with
      | .ok => 0
      | .notInitialized => 1
      | .notRunning => 2
      | .illegalCommand => 3) ∧
    ∀ k : Nat, k < 7 → (responseWord st ws).extractLsb' (96 - 16 * k) 16 = ws.getD k 0

/-! ## The step -/

/-- R300: no run of the machine ever stops: from every state, every number of steps answers a next state. -/
def Obligations.EveryRunGoesOn : Prop :=
  ∀ (n : Nat) (s : State), ∃ t, Host.Core.run core n s = .next t

/-- R6: a line sample or a command word that arrives runs the instruction it decodes to, with the event taken from the
queue and nothing else done around it. -/
def Obligations.StepRunsTheDecodedInstruction : Prop :=
  ∀ (s : State) (rest : List Event),
    (∀ w : LineWord, s.input = .line w :: rest →
      step s = exec (decodeLine w) { s with input := rest }) ∧
    (∀ (w : CommandWord) (i : Instr), s.input = .command w :: rest → decodeCommand w = .ok i →
      step s = exec i { s with input := rest })

/-- A frame of a channel that is not CALIBRATION. -/
def isStrayFrame : Instr → Bool
  | .voltage _ => true
  | .forceX _ => true
  | .forceY _ => true
  | .forceZ _ => true
  | .momentX _ => true
  | .momentY _ => true
  | .momentZ _ => true
  | .calibration _ _ => false
  | .reserved _ _ => true
  | .initializeCmd _ => false
  | .setFilter _ _ => false
  | .calibrate _ => false
  | .startSync _ => false
  | .startAsync _ => false
  | .stop _ => false
  | .acquire _ => false
  | .getFullScales _ => false
  | .getState _ => false
  | .isConnected _ => false
  | .line _ _ => false

/-- The MODEL's own choice (logs 4, 5, 6, 7; I9, I11, R131, R139): with no event waiting, with a command at a busy port,
with a Tick while the async agent is not active, and for a frame with no consumer active, no register changes and nothing
is emitted. -/
def Obligations.NoMoveChangesNothing : Prop :=
  ∀ (s : State) (rest : List Event),
    (s.input = [] → step s = .next s) ∧
    (∀ w : CommandWord, s.seq ≠ .none → s.input = .command w :: rest →
      step s = .next { s with input := rest }) ∧
    (s.asyncActive = false → s.input = .tick :: rest → step s = .next { s with input := rest }) ∧
    ∀ i : Instr, (isStrayFrame i = true ∨ ∃ a v, i = .calibration a v) → consumerActive s = false →
      exec i s = .next s

/-- R274: a Tick while the async agent runs refreshes its period and pushes the sample record of this step; with a stop
request it exits instead, and the stop sequence completes if the decode loop has exited too. -/
def Obligations.TickPushesOrExits : Prop :=
  ∀ (s : State) (rest : List Event), s.asyncActive = true → s.input = .tick :: rest →
    (s.stopReq = false →
      step s = .next { s with
        input := rest
        periodL := s.period
        out := s.out ++
          [.push (s.shared.toList.map (encodeNumber s.cfg.numF) ++ [s.counter])] }) ∧
    (s.stopReq = true → s.decActive = true →
      step s = .next { s with input := rest, asyncActive := false }) ∧
    (∀ after, s.stopReq = true → s.decActive = false → s.seq = .stopping after →
      step s = .next (stopComplete after { s with input := rest, asyncActive := false }))

/-- R340: the Reset event gives every register its reset value, abandons a command in progress and emits nothing. That
the parameters, the waiting events and the emitted records stay is the model's choice (log 14). -/
def Obligations.ResetEventRestoresReset : Prop :=
  ∀ (s : State) (rest : List Event), s.input = .reset :: rest →
    step s = .next { State.reset with cfg := s.cfg, input := rest, out := s.out }

/-- R50: the value of every register in the state the machine starts in and after a Reset event in any state. -/
def Obligations.ResetRegisterValues : Prop :=
  ∀ s : State,
  (s = State.reset ∨ ∃ (r : State) (rest : List Event), r.input = .reset :: rest ∧ step r = .next s) →
  s.phase = .idle ∧ s.bit = 19 ∧ s.acc = 0 ∧ s.expect = .forceX ∧
  (∀ a : Axis, s.raw.get a = 0 ∧ s.dec.get a = 0 ∧ s.fil.get a = 0 ∧ s.off.get a = 0 ∧
    s.shared.get a = 0 ∧ s.fs.get a = 0 ∧ ∀ b : Axis, (s.coef.get a).get b = 0) ∧
  s.alphaL = 0x80000000 ∧ s.counter = 0 ∧ s.alpha = 0x80000000 ∧ s.cutoff = 0 ∧ s.period = 0 ∧
  s.periodL = 0 ∧ s.zeroPending = false ∧ s.stopReq = false ∧ s.ctl = .uninitialized ∧
  s.mode = .none ∧ s.decActive = false ∧ s.asyncActive = false ∧ (∀ x : Nat, s.img.read x = 0) ∧
  s.calCount = 0 ∧ s.calLast = 0 ∧ s.seq = .none ∧ s.probeN = 0 ∧ s.probeLast = false

/-! ## The line decoder and the probe -/

/-- R132 to R135: the decoder's transitions in the phases IDLE, ARMED, PULSE and FALL, and in RISE while the clock is
low, on every sample; nothing else of the state changes, beyond what the probe does with the same sample (R143). -/
def Obligations.DecoderTransitions : Prop :=
  ∀ (s : State) (c d : Bool), consumerActive s = true →
    (s.phase = .idle → exec (.line c d) s =
      .next { probeSample c s with phase := if c = true ∧ d = true then .armed else .idle }) ∧
    (s.phase = .armed → exec (.line c d) s =
      .next { probeSample c s with
        phase := if c = true then (if d = true then .armed else .pulse) else .idle }) ∧
    (s.phase = .pulse → c = true → d = true → exec (.line c d) s =
      .next { probeSample c s with phase := .fall, bit := 19, acc := 0 }) ∧
    (s.phase = .pulse → ¬(c = true ∧ d = true) → exec (.line c d) s =
      .next { probeSample c s with phase := if c = true then .pulse else .idle }) ∧
    (s.phase = .fall → exec (.line c d) s =
      .next { probeSample c s with phase := if c = true then .fall else .rise }) ∧
    (s.phase = .rise → c = false → exec (.line c d) s = .next (probeSample c s))

/-- R136: a rising clock edge with bits left captures the data level at the current bit, leaves the other bits of the
accumulator, and goes on to the bit below. -/
def Obligations.RisingEdgeCapturesTheBit : Prop :=
  ∀ (s : State) (d : Bool), consumerActive s = true → s.phase = .rise → s.bit ≠ 0 →
    ∃ (a : Frame) (b : Fin 20),
      exec (.line true d) s =
        .next { probeSample true s with acc := a, bit := b, phase := .fall } ∧
      b.val + 1 = s.bit.val ∧
      ∀ k : Nat, k < 20 → a.getLsbD k = if k = s.bit.val then d else s.acc.getLsbD k

/-- R137: the edge that captures bit 0 completes the frame, which runs, in the same step and with the decoder back at
IDLE, as the instruction it decodes to. -/
def Obligations.CompletedFrameRunsItsInstruction : Prop :=
  ∀ (s : State) (d : Bool), consumerActive s = true → s.phase = .rise → s.bit = 0 →
    ∃ f : Frame,
      exec (.line true d) s =
        exec (decodeFrame f) { probeSample true s with acc := f, phase := .idle } ∧
      ∀ k : Nat, k < 20 → f.getLsbD k = if k = 0 then d else s.acc.getLsbD k

/-- R143, R271: IS_CONNECTED starts the probe at an idle port in every controller state; the probe looks at each sample,
answers 1 at the first clock change and 0 at the N_PROBE-th sample without one, and does nothing while it is not
asked. -/
def Obligations.ProbeLooksAtTheClock : Prop :=
  (∀ (a : Word32) (s : State), s.seq = .none →
    exec (.isConnected a) s = .next { s with seq := .probe, probeN := 0 }) ∧
  (∀ (c d : Bool) (s : State), consumerActive s = false →
    exec (.line c d) s = .next (probeSample c s)) ∧
  (∀ (c : Bool) (s : State), s.seq ≠ .probe → probeSample c s = s) ∧
  (∀ (c : Bool) (s : State), s.seq = .probe → 1 ≤ s.probeN → c ≠ s.probeLast →
    probeSample c s =
      { s with seq := .none, probeN := s.probeN + 1, out := s.out ++ [.resp .ok [1]] }) ∧
  (∀ (c : Bool) (s : State), s.seq = .probe → (s.probeN = 0 ∨ c = s.probeLast) →
    probeSample c s =
      if s.probeN + 1 = s.cfg.nProbe then
        { s with
          seq := .none
          probeN := s.probeN + 1
          probeLast := c
          out := s.out ++ [.resp .ok [0]] }
      else { s with probeN := s.probeN + 1, probeLast := c })

/-- R143: a probe that has just started answers 0 after N_PROBE samples with one clock level, and 1 at the first change
after fewer, and by then has emitted nothing else. -/
def Obligations.ProbeAnswersWithinItsBound : Prop :=
  ∀ (s : State) (c : Bool) (ds : List Bool), s.seq = .probe → s.probeN = 0 → s.decActive = false →
    s.cfg.Legal →
    (ds.length = s.cfg.nProbe →
      Host.Core.run core ds.length (withSamples (ds.map fun d => (c, d)) s) =
        .next { s with
          input := []
          seq := .none
          probeN := s.cfg.nProbe
          probeLast := c
          out := s.out ++ [.resp .ok [0]] }) ∧
    (∀ d : Bool, 1 ≤ ds.length → ds.length < s.cfg.nProbe →
      Host.Core.run core (ds.length + 1) (withSamples ((ds.map fun d => (c, d)) ++ [(!c, d)]) s) =
        .next { s with
          input := []
          seq := .none
          probeN := ds.length + 1
          probeLast := c
          out := s.out ++ [.resp .ok [1]] })

/-- R96: from IDLE or ARMED, every sample sequence of format L, whatever its repeat counts and ignored data levels,
delivers exactly its frame at its last sample; the shortest form has 43 samples. -/
def Obligations.EveryWaveformDeliversItsFrame : Prop :=
  (∀ (s : State) (idle pulse rest : Nat) (shape : Nat → BitShape) (f : Frame),
    consumerActive s = true → s.seq ≠ .probe → (s.phase = .idle ∨ s.phase = .armed) →
    Host.Core.run core (waveform idle pulse rest shape f).length
        (withSamples (waveform idle pulse rest shape f) s) =
      exec (decodeFrame f) { s with input := [], phase := .idle, bit := 0, acc := f }) ∧
  ∀ (f : Frame) (b : Bool), (waveform 0 0 0 (fun _ => ⟨b, [], []⟩) f).length = 43

/-- R141: a spurious start pulse with no clock edge after it, whatever the data line does meanwhile, costs nothing: the
genuine frame that follows is delivered exactly. -/
def Obligations.SpuriousPulseWithoutClockIsHarmless : Prop :=
  ∀ (s : State) (i p idle pulse rest : Nat) (ds : List Bool) (shape : Nat → BitShape) (f : Frame),
    consumerActive s = true → s.seq ≠ .probe → (s.phase = .idle ∨ s.phase = .armed) →
    let xs := List.replicate (i + 1) (true, true) ++ List.replicate (p + 1) (true, false) ++
      [(true, true)] ++ ds.map (fun d => (true, d)) ++ waveform idle pulse rest shape f
    Host.Core.run core xs.length (withSamples xs s) =
      exec (decodeFrame f) { s with input := [], phase := .idle, bit := 0, acc := f }

/-! ## The codec -/

/-- R162: `clz16` counts the 0 bits above the leading 1; 16 for zero. -/
def Obligations.LeadingZeroCount : Prop :=
  clz16 0 = 16 ∧
  ∀ t : Word16, t ≠ 0 →
    clz16 t ≤ 15 ∧ t.getLsbD (15 - clz16 t) = true ∧
    ∀ k : Nat, 15 - clz16 t < k → k < 16 → t.getLsbD k = false

/-- R163: `normalize` shifts the leading differing bit to bit 14 and keeps the value exactly; 0x0000 and 0xFFFF, which
have no such bit, follow the same formula. -/
def Obligations.NormalizeKeepsTheValue : Prop :=
  normalizeRaw 0x0000 = (0x0000, -15) ∧ normalizeRaw 0xFFFF = (0x8000, -15) ∧
  ∀ v : Word16, v ≠ 0x0000 → v ≠ 0xFFFF →
    ∃ k : Nat, k ≤ 14 ∧ k + 1 = clz16 (if v.getLsbD 15 then ~~~v else v) ∧
      (normalizeRaw v).2 = -(k : Int) ∧
      (normalizeRaw v).1.getLsbD 15 = v.getLsbD 15 ∧
      (normalizeRaw v).1.getLsbD 14 ≠ (normalizeRaw v).1.getLsbD 15 ∧
      (normalizeRaw v).1.toInt = v.toInt * 2 ^ k ∧
      ∀ j : Nat, j < k → (normalizeRaw v).1.getLsbD j = false

/-- R165, R170: the canonical word packed from a valid pair stands for the mantissa, read as a fraction with 15
fractional bits, times two to the exponent. -/
def Obligations.PackedWordOfValidPair : Prop :=
  ∀ (m : Word16) (e : Int), validPair m e = true →
    cwValue (pack e m) = (m.toInt : Rat) * (2 : Rat) ^ (e - 15)

/-- R166: the Number of a canonical word is the floor of its value times 2^NUM_F, saturated to 32 bits. -/
def Obligations.NumberIsTheFlooredValue : Prop :=
  ∀ (numF : Nat) (w : Word32),
    (cwToNum numF w).toInt =
      max (-2147483648) (min 2147483647 (Int.floor (cwValue w * (2 : Rat) ^ numF)))

/-- R168: `decode_cal` of a valid pair is the pair's value at NUM_F, floored and saturated. -/
def Obligations.ValidPairDecodesToItsValue : Prop :=
  ∀ (numF : Nat) (m : Word16) (e : Int), validPair m e = true →
    decodeCal numF m e = toNumber (floorShift m.toInt (e + numF - 15))

/-- R173 (c), (d): exponents -128 and -127 saturate whatever the mantissa, and -126 gives 0 or -1 by its sign. -/
def Obligations.ExtremeExponents : Prop :=
  ∀ (numF : Nat) (m : Word16), 15 ≤ numF → numF ≤ 31 →
    (∀ e : Int, (e = -128 ∨ e = -127) →
      decodeCal numF m e = if m.msb then 0x80000000 else 0x7FFFFFFF) ∧
    decodeCal numF m (-126) = if m.msb then 0xFFFFFFFF else 0x00000000

/-- R167, R172: every raw wire value but seventeen decodes to exactly its fraction of full scale; the fifteen negative
powers of two decode to half of it, 0x0000 to the floor of 2^(NUM_F - 16) and 0xFFFF to that of -2^(NUM_F - 16). -/
def Obligations.RawValuesDecodeExactly : Prop :=
  ∀ (numF : Nat) (v : Word16), 15 ≤ numF → numF ≤ 31 →
    (v ≠ 0x0000 → v ≠ 0xFFFF → halvedRaw v = false →
      (decodeRaw numF v).toInt = v.toInt * 2 ^ (numF - 15)) ∧
    (halvedRaw v = true → 2 * (decodeRaw numF v).toInt = v.toInt * 2 ^ (numF - 15)) ∧
    (decodeRaw numF 0x0000).toInt = floorShift 1 ((numF : Int) - 16) ∧
    (decodeRaw numF 0xFFFF).toInt = floorShift (-1) ((numF : Int) - 16)

/-- R171 (a): encoding a decoded raw value gives the value back for every raw value except exactly the fifteen negative
powers of two, at every legal NUM_F. -/
def Obligations.RawValuesRoundTrip : Prop :=
  ∀ (numF : Nat) (v : Word16), 15 ≤ numF → numF ≤ 31 →
    (encodeNumber numF (decodeRaw numF v) = v ↔ halvedRaw v = false)

/-- R171 (b): encoding a decoded valid pair gives the pair's value as a wire word, floored and clamped, at every legal
NUM_F. -/
def Obligations.ValidPairsRoundTrip : Prop :=
  ∀ (numF : Nat) (m : Word16) (e : Int), 15 ≤ numF → numF ≤ 31 → validPair m e = true →
    encodeNumber numF (decodeCal numF m e) = toWire (floorShift m.toInt e)

/-- R175: the smoothing coefficient is 2^31 at cutoff 0, is the stated quotient below 2^31 at every other cutoff, and does
not decrease as the cutoff grows from 1. -/
def Obligations.SmoothingCoefficient : Prop :=
  ∀ fsHz : Nat, 1 ≤ fsHz →
    (alphaOf fsHz 0).toNat = 2 ^ 31 ∧
    (∀ c : Word16, c ≠ 0 →
      (alphaOf fsHz c).toNat =
        2 ^ 31 * (1686629713 * c.toNat) / (1686629713 * c.toNat + 100 * fsHz * 2 ^ 28) ∧
      (alphaOf fsHz c).toNat < 2 ^ 31) ∧
    ∀ c d : Word16, c ≠ 0 → c.toNat ≤ d.toNat → (alphaOf fsHz c).toNat ≤ (alphaOf fsHz d).toNat

/-- R234: the new filter value is the stated one, lies between the old value and the new decoupled value inclusive, equals
the decoupled value when alpha is 1 and the old value when alpha is 0, moves down by at least one unit from above, and
stays where it is when alpha times the rise is below 2^31. -/
def Obligations.FilterNeverOvershoots : Prop :=
  ∀ (alphaL : Word32) (old new : Number), alphaL.toNat ≤ 2 ^ 31 →
    (filterAxis alphaL old new).toInt =
      old.toInt + ((alphaL.toNat : Int) * (new.toInt - old.toInt)) / 2 ^ 31 ∧
    min old.toInt new.toInt ≤ (filterAxis alphaL old new).toInt ∧
    (filterAxis alphaL old new).toInt ≤ max old.toInt new.toInt ∧
    (alphaL.toNat = 2 ^ 31 → filterAxis alphaL old new = new) ∧
    (alphaL.toNat = 0 → filterAxis alphaL old new = old) ∧
    (0 < alphaL.toNat → new.toInt < old.toInt → (filterAxis alphaL old new).toInt < old.toInt) ∧
    (old.toInt ≤ new.toInt → (alphaL.toNat : Int) * (new.toInt - old.toInt) < 2 ^ 31 →
      filterAxis alphaL old new = old)

/-! ## The calibration parser -/

/-- R201: in parse context a frame of any channel but CALIBRATION changes nothing. -/
def Obligations.ParserDiscardsOtherFrames : Prop :=
  ∀ (s : State) (p : Word16) (ch : BitVec 4), s.seq = .parse →
    exec (.voltage p) s = .next s ∧ exec (.forceX p) s = .next s ∧ exec (.forceY p) s = .next s ∧
    exec (.forceZ p) s = .next s ∧ exec (.momentX p) s = .next s ∧ exec (.momentY p) s = .next s ∧
    exec (.momentZ p) s = .next s ∧ exec (.reserved ch p) s = .next s

/-- R202, R203: in parse context a CALIBRATION byte that is the first, or follows the previous address modulo 256, is
stored at its address and at no other, and counted; any other is dropped and changes nothing. (The byte that makes the
count 256 is the next statement's.) -/
def Obligations.ParserStoresSequentialBytes : Prop :=
  ∀ (s : State) (a v : Byte), s.seq = .parse →
    ((s.calCount = 0 ∨ a.toNat = (s.calLast.toNat + 1) % 256) → s.calCount + 1 ≠ 256 →
      Memory.wf s.img →
      ∃ m : Memory,
        exec (.calibration a v) s =
          .next { s with img := m, calLast := a, calCount := s.calCount + 1 } ∧
        ∀ x : Nat, m.read x = if x = a.toNat then v else s.img.read x) ∧
    (¬(s.calCount = 0 ∨ a.toNat = (s.calLast.toNat + 1) % 256) →
      exec (.calibration a v) s = .next s)

/-- R204, R205, R206: the 256th byte completes the parse in its step: the byte is stored, all 36 coefficients and six full
scales are extracted from the image at their offsets, the controller is READY, the port is idle and the response OK. -/
def Obligations.LastByteCompletesTheParse : Prop :=
  ∀ (s : State) (a v : Byte), s.seq = .parse → s.calCount = 255 →
    a.toNat = (s.calLast.toNat + 1) % 256 → Memory.wf s.img →
    ∃ (m : Memory) (coef : Six (Six Number)) (fs : Six Word16),
      exec (.calibration a v) s = .next { s with
        img := m
        calLast := a
        calCount := 256
        coef := coef
        fs := fs
        ctl := .ready
        seq := .none
        out := s.out ++ [.resp .ok []] } ∧
      (∀ x : Nat, m.read x = if x = a.toNat then v else s.img.read x) ∧
      (∀ i j : Axis, (coef.get i).get j =
        decodeCal s.cfg.numF
          (m.read (11 + 20 * i.slot + 3 * j.slot) ++ m.read (10 + 20 * i.slot + 3 * j.slot))
          (m.read (12 + 20 * i.slot + 3 * j.slot)).toInt) ∧
      ∀ i : Axis, fs.get i = m.read (29 + 20 * i.slot) ++ m.read (28 + 20 * i.slot)

/-- The CALIBRATION frames of a whole image, from address `first` on with the address wrapping from 255 to 0, with
frames of other channels in between. -/
def imageFrames (first : Byte) (bytes : Byte → Byte) (stray : Nat → List Instr) : List Instr :=
  (List.range 256).flatMap fun k =>
    stray k ++ [.calibration (first + BitVec.ofNat 8 k) (bytes (first + BitVec.ofNat 8 k))]

/-- R208, R204, R61: a parse that has begun and sees all 256 bytes in address order, from any address on and with any
other frames in between, ends READY with the image equal to the bytes sent and one OK response. -/
def Obligations.WholeImageIsParsed : Prop :=
  ∀ (s : State) (first : Byte) (bytes : Byte → Byte) (stray : Nat → List Instr),
    s.seq = .parse → s.calCount = 0 → Memory.wf s.img →
    (∀ k, ∀ i ∈ stray k, isStrayFrame i = true) →
    ∃ t, execAll (imageFrames first bytes stray) s = .next t ∧
      (∀ a : Byte, t.img.read a.toNat = bytes a) ∧
      (∀ i j : Axis, (t.coef.get i).get j = extractCoef s.cfg.numF t.img i j) ∧
      (∀ i : Axis, t.fs.get i = extractFullScale t.img i) ∧
      t.ctl = .ready ∧ t.seq = .none ∧ t.calCount = 256 ∧ t.out = s.out ++ [.resp .ok []]

/-! ## The decode loop -/

/-- R221: at the loop top ALPHA is latched; a stop request is observed after every frame, or with STOP_OBSERVE =
revolution only at FORCE_X; then the loop ends, and the stop sequence completes if the async agent has exited too. -/
def Obligations.LoopTopLatchesAndObserves : Prop :=
  ∀ s : State,
    (¬(s.stopReq = true ∧ (s.cfg.stopObserve = .frame ∨ s.expect = .forceX)) →
      loopTop s = { s with alphaL := s.alpha }) ∧
    ((s.stopReq = true ∧ (s.cfg.stopObserve = .frame ∨ s.expect = .forceX)) →
      (s.asyncActive = true → loopTop s = { s with alphaL := s.alpha, decActive := false }) ∧
      (∀ after, s.asyncActive = false → s.seq = .stopping after →
        loopTop s = stopComplete after { s with alphaL := s.alpha, decActive := false }))

/-- What R224 to R228 say of an axis frame that does not end a revolution: in parse context nothing; in loop context, in
sequence, its slot alone is written and `b` is expected; out of sequence the expectation is FORCE_X; then the loop top,
which without a stop request only latches ALPHA. -/
def axisFrameRule (mk : Word16 → Instr) (a b : Axis) : Prop :=
  ∀ (p : Word16) (s : State),
    (s.seq = .parse → exec (mk p) s = .next s) ∧
    (s.seq ≠ .parse → s.decActive = true → s.expect = a →
      ∃ raw : Six Number,
        exec (mk p) s = .next (loopTop { s with raw := raw, expect := b }) ∧
        (s.stopReq = false →
          exec (mk p) s = .next { s with raw := raw, expect := b, alphaL := s.alpha }) ∧
        ∀ x : Axis, raw.get x = if x = a then decodeRaw s.cfg.numF p else s.raw.get x) ∧
    (s.seq ≠ .parse → s.decActive = true → s.expect ≠ a →
      exec (mk p) s = .next (loopTop { s with expect := .forceX }) ∧
      (s.stopReq = false →
        exec (mk p) s = .next { s with expect := .forceX, alphaL := s.alpha }))

/-- R224, R225, R226, R227, R228: FORCE_X to MOMENT_Y. -/
def Obligations.AxisFramesAdvanceTheSequence : Prop :=
  axisFrameRule .forceX .forceX .forceY ∧ axisFrameRule .forceY .forceY .forceZ ∧
  axisFrameRule .forceZ .forceZ .momentX ∧ axisFrameRule .momentX .momentX .momentY ∧
  axisFrameRule .momentY .momentY .momentZ

/-- R223, R231, and R230 in loop context: VOLTAGE and reserved frames are discarded in parse context; they and
CALIBRATION frames break the sequence in loop context and touch nothing else; then the loop top, which without a stop
request only latches ALPHA. -/
def Obligations.OtherFramesBreakTheSequence : Prop :=
  ∀ (s : State) (p : Word16) (ch : BitVec 4) (a v : Byte) (i : Instr),
    (i = .voltage p ∨ i = .reserved ch p ∨ i = .calibration a v) →
    (s.seq = .parse → i ≠ .calibration a v → exec i s = .next s) ∧
    (s.seq ≠ .parse → s.decActive = true →
      exec i s = .next (loopTop { s with expect := .forceX }) ∧
      (s.stopReq = false → exec i s = .next { s with expect := .forceX, alphaL := s.alpha }))

/-- R233: the decoupled values of the six raw slots. -/
def decoupled (numF : Nat) (coef : Six (Six Number)) (raw : Six Number) (i : Axis) : Number :=
  toNumber (floorShift
    (((coef.get i).get .forceX).toInt * (raw.get .forceX).toInt +
      ((coef.get i).get .forceY).toInt * (raw.get .forceY).toInt +
      ((coef.get i).get .forceZ).toInt * (raw.get .forceZ).toInt +
      ((coef.get i).get .momentX).toInt * (raw.get .momentX).toInt +
      ((coef.get i).get .momentY).toInt * (raw.get .momentY).toInt +
      ((coef.get i).get .momentZ).toInt * (raw.get .momentZ).toInt) (-(numF : Int)))

/-- R229, R233 to R238: a MOMENT_Z frame in sequence stores its slot and completes the revolution: decoupling, the filter
with the latched alpha, the publish or the zero-offset service, the counter, the expectation, then the loop top; out of
sequence it breaks the sequence; in parse context it changes nothing. -/
def Obligations.MomentZCompletesTheRevolution : Prop :=
  ∀ (p : Word16) (s : State),
    (s.seq = .parse → exec (.momentZ p) s = .next s) ∧
    (s.seq ≠ .parse → s.decActive = true → s.expect ≠ .momentZ →
      exec (.momentZ p) s = .next (loopTop { s with expect := .forceX })) ∧
    (s.seq ≠ .parse → s.decActive = true → s.expect = .momentZ →
      ∃ raw dec fil off shared : Six Number,
        (exec (.momentZ p) s = .next (loopTop { s with
          raw := raw
          dec := dec
          fil := fil
          off := off
          shared := shared
          zeroPending := false
          counter := s.counter + 1
          expect := .forceX })) ∧
        (∀ x : Axis, raw.get x = if x = .momentZ then decodeRaw s.cfg.numF p else s.raw.get x) ∧
        (∀ x : Axis, dec.get x = decoupled s.cfg.numF s.coef raw x) ∧
        ∀ x : Axis,
          (s.zeroPending = false →
            fil.get x = toNumber ((s.fil.get x).toInt +
              floorShift ((s.alphaL.toNat : Int) * ((dec.get x).toInt - (s.fil.get x).toInt)) (-31)) ∧
            off.get x = s.off.get x ∧
            shared.get x = toNumber ((fil.get x).toInt - (off.get x).toInt)) ∧
          (s.zeroPending = true →
            fil.get x = dec.get x ∧ off.get x = dec.get x ∧ shared.get x = 0))

/-- R240: after a revolution that services a zero-offset request, an ACQUIRE returns six zero words and the counter,
whatever alpha is. -/
def Obligations.ZeroOffsetReadsZero : Prop :=
  ∀ (p : Word16) (a : Word32) (s t : State), s.seq = .none → s.ctl = .ready → s.decActive = true →
    s.stopReq = false → s.expect = .momentZ → s.zeroPending = true →
    exec (.momentZ p) s = .next t →
    exec (.acquire a) t =
      .next { t with out := t.out ++ [.resp .ok [0, 0, 0, 0, 0, 0, s.counter + 1]] }

/-- R239: leaving a completed stop sequence aside, a line sample changes the decoupled, filtered, offset or published
values or the counter only if it completes a MOMENT_Z frame in loop context with MOMENT_Z expected; and it changes the
expectation only by completing a frame there, to FORCE_X or, if the frame is of the expected channel, to the next. -/
def Obligations.RevolutionsNeedTheWholeSequence : Prop :=
  ∀ (s t : State) (w : LineWord) (rest : List Event), s.input = .line w :: rest → step s = .next t →
    s.stopReq = false →
    ((t.dec ≠ s.dec ∨ t.fil ≠ s.fil ∨ t.off ≠ s.off ∨ t.shared ≠ s.shared ∨ t.counter ≠ s.counter) →
      s.seq ≠ .parse ∧ s.decActive = true ∧ s.phase = .rise ∧ s.bit = 0 ∧ w.getLsbD 1 = true ∧
      s.acc.channel = 6 ∧ s.expect = .momentZ) ∧
    (t.expect ≠ s.expect →
      s.seq ≠ .parse ∧ s.decActive = true ∧ s.phase = .rise ∧ s.bit = 0 ∧ w.getLsbD 1 = true ∧
      (t.expect = .forceX ∨
        (s.acc.channel = s.expect.channel ∧ t.expect.slot = s.expect.slot + 1)))

/-! ## The stop sequence and the commands -/

/-- R272, R200, R273: what beginning a stop sequence does, and what its completion does for each `then`. -/
def Obligations.StopSequenceSteps : Prop :=
  ∀ (s : State) (after : AfterStop),
    (running s = true → stopBegin after s = { s with seq := .stopping after, stopReq := true }) ∧
    (running s = false → stopBegin after s = stopComplete after { s with seq := .stopping after }) ∧
    stopComplete .done s = { s with
      stopReq := false
      mode := .none
      shared := Six.fill 0
      counter := 0
      zeroPending := false
      seq := .none
      out := s.out ++ [.resp .ok []] } ∧
    stopComplete .parse s = { s with
      stopReq := false
      mode := .none
      shared := Six.fill 0
      counter := 0
      zeroPending := false
      ctl := .uninitialized
      calCount := 0
      phase := .idle
      seq := .parse } ∧
    stopComplete .startSync s = { s with
      stopReq := false
      mode := .sync
      shared := Six.fill 0
      counter := 0
      zeroPending := false
      expect := .forceX
      fil := Six.fill 0
      off := Six.fill 0
      alphaL := s.alpha
      phase := .idle
      decActive := true
      seq := .none
      out := s.out ++ [.resp .ok []] } ∧
    ∀ p : Word32, stopComplete (.startAsync p) s = { s with
      stopReq := false
      mode := .async
      shared := Six.fill 0
      counter := 0
      zeroPending := false
      expect := .forceX
      fil := Six.fill 0
      off := Six.fill 0
      alphaL := s.alpha
      phase := .idle
      decActive := true
      asyncActive := true
      period := p
      periodL := p
      seq := .none
      out := s.out ++ [.push [0, 0, 0, 0, 0, 0, 0], .resp .ok []] }

/-- R267, R272, R221: with STOP_OBSERVE = frame, a STOP that waits for the decode loop alone completes in the step of the
next frame of any channel: nothing runs, the mode is NONE, the sample buffer is zero and the one response is OK. -/
def Obligations.StopCompletesAtTheNextFrame : Prop :=
  ∀ (s t : State) (i : Instr), (isStrayFrame i = true ∨ ∃ a v, i = .calibration a v) →
    s.seq = .stopping .done → s.decActive = true → s.asyncActive = false → s.stopReq = true →
    s.cfg.stopObserve = .frame → exec i s = .next t →
    t.seq = .none ∧ t.decActive = false ∧ t.asyncActive = false ∧ t.stopReq = false ∧
    t.zeroPending = false ∧ t.mode = .none ∧ t.shared = Six.fill 0 ∧ t.counter = 0 ∧
    t.ctl = s.ctl ∧ t.out = s.out ++ [.resp .ok []]

/-- R261 (3), R301: while UNINITIALIZED seven commands are answered NOT_INITIALIZED and change nothing else. -/
def Obligations.UninitializedRefusesCommands : Prop :=
  ∀ (s : State) (a : Word32) (u c : Word16) (i : Instr),
    (i = .setFilter u c ∨ i = .calibrate a ∨ i = .startSync a ∨ i = .startAsync a ∨ i = .stop a ∨
      i = .acquire a ∨ i = .getFullScales a) →
    s.seq = .none → s.ctl = .uninitialized →
    exec i s = .next { s with out := s.out ++ [.resp .notInitialized []] }

/-- R307: an instruction that is answered with a status other than OK changes nothing but to emit that one response,
which has no data words, and leaves the port idle. -/
def Obligations.RefusalsChangeNothing : Prop :=
  ∀ (i : Instr) (s t : State) (new : List Output) (st : Status) (ws : List Word16),
    exec i s = .next t → t.out = s.out ++ new → .resp st ws ∈ new → st ≠ .ok →
    new = [.resp st ws] ∧ ws = [] ∧ t = { s with out := s.out ++ new } ∧ t.seq = .none

/-- R262: INITIALIZE at an idle port, in every controller state: with nothing running the parse starts in the same step
with the sample buffer zeroed and the requests cleared; while an agent runs it raises the stop request and waits. -/
def Obligations.InitializeStopsAndParses : Prop :=
  ∀ (s : State) (a : Word32), s.seq = .none →
    (running s = false → exec (.initializeCmd a) s = .next { s with
      stopReq := false
      mode := .none
      shared := Six.fill 0
      counter := 0
      zeroPending := false
      ctl := .uninitialized
      calCount := 0
      phase := .idle
      seq := .parse }) ∧
    (running s = true →
      exec (.initializeCmd a) s = .next { s with seq := .stopping .parse, stopReq := true })

/-- R263, R264: SET_FILTER in READY stores the cutoff and its smoothing coefficient, and CALIBRATE in READY raises the
zero-offset request; both answer OK at once, running or not. While UNINITIALIZED both are answered NOT_INITIALIZED. -/
def Obligations.SetFilterAndCalibrateTakeEffect : Prop :=
  ∀ (s : State) (a : Word32) (u c : Word16), s.seq = .none →
    (s.ctl = .ready →
      exec (.setFilter u c) s = .next { s with
        cutoff := c
        alpha := alphaOf s.cfg.fsHz c
        out := s.out ++ [.resp .ok []] } ∧
      exec (.calibrate a) s = .next { s with zeroPending := true, out := s.out ++ [.resp .ok []] }) ∧
    (s.ctl = .uninitialized →
      exec (.setFilter u c) s = .next { s with out := s.out ++ [.resp .notInitialized []] } ∧
      exec (.calibrate a) s = .next { s with out := s.out ++ [.resp .notInitialized []] })

/-- R265, R273: START_SYNC in READY with nothing running carries out the start procedure and answers OK. -/
def Obligations.StartSyncStartsTheLoop : Prop :=
  ∀ (s : State) (a : Word32), s.seq = .none → s.ctl = .ready → running s = false →
    exec (.startSync a) s = .next { s with
      expect := .forceX
      fil := Six.fill 0
      off := Six.fill 0
      alphaL := s.alpha
      phase := .idle
      decActive := true
      mode := .sync
      out := s.out ++ [.resp .ok []] }

/-- R266, R273: START_ASYNC in READY with nothing running carries out the start procedure, stores the period, starts the
async agent, pushes the sample record and answers OK. -/
def Obligations.StartAsyncStartsBothAgents : Prop :=
  ∀ (s : State) (p : Word32), s.seq = .none → s.ctl = .ready → running s = false →
    exec (.startAsync p) s = .next { s with
      expect := .forceX
      fil := Six.fill 0
      off := Six.fill 0
      alphaL := s.alpha
      phase := .idle
      decActive := true
      mode := .async
      period := p
      periodL := p
      asyncActive := true
      out := s.out ++
        [.push (s.shared.toList.map (encodeNumber s.cfg.numF) ++ [s.counter]), .resp .ok []] }

/-- R265, R266, R305: a START while an agent runs raises the stop request and waits, remembering what to start. -/
def Obligations.StartWhileRunningStopsFirst : Prop :=
  ∀ (s : State) (a : Word32), s.seq = .none → s.ctl = .ready → running s = true →
    exec (.startSync a) s = .next { s with seq := .stopping .startSync, stopReq := true } ∧
    exec (.startAsync a) s = .next { s with seq := .stopping (.startAsync a), stopReq := true }

/-- R267: STOP in READY completes at once with nothing running, clearing the sample buffer and the requests; while an
agent runs it raises the stop request and waits. -/
def Obligations.StopCompletesOrWaits : Prop :=
  ∀ (s : State) (a : Word32), s.seq = .none → s.ctl = .ready →
    (running s = false → exec (.stop a) s = .next { s with
      stopReq := false
      mode := .none
      shared := Six.fill 0
      counter := 0
      zeroPending := false
      out := s.out ++ [.resp .ok []] }) ∧
    (running s = true →
      exec (.stop a) s = .next { s with seq := .stopping .done, stopReq := true })

/-- R268, R105: ACQUIRE in READY answers the sample record of the buffer as it is while the decode loop runs, and
NOT_RUNNING otherwise; no register changes. -/
def Obligations.AcquireReadsTheSample : Prop :=
  ∀ (s : State) (a : Word32), s.seq = .none → s.ctl = .ready →
    (s.decActive = true → exec (.acquire a) s = .next { s with
      out := s.out ++ [.resp .ok [
        encodeNumber s.cfg.numF (s.shared.get .forceX),
        encodeNumber s.cfg.numF (s.shared.get .forceY),
        encodeNumber s.cfg.numF (s.shared.get .forceZ),
        encodeNumber s.cfg.numF (s.shared.get .momentX),
        encodeNumber s.cfg.numF (s.shared.get .momentY),
        encodeNumber s.cfg.numF (s.shared.get .momentZ),
        s.counter]] }) ∧
    (s.decActive = false →
      exec (.acquire a) s = .next { s with out := s.out ++ [.resp .notRunning []] })

/-- R269, R270: GET_FULL_SCALES in READY answers the six full scales; GET_STATE answers 0 or 1 in every controller state;
no register changes. -/
def Obligations.GettersAnswer : Prop :=
  ∀ (s : State) (a : Word32), s.seq = .none →
    (s.ctl = .ready → exec (.getFullScales a) s = .next { s with
      out := s.out ++ [.resp .ok [s.fs.get .forceX, s.fs.get .forceY, s.fs.get .forceZ,
        s.fs.get .momentX, s.fs.get .momentY, s.fs.get .momentZ]] }) ∧
    exec (.getState a) s = .next { s with
      out := s.out ++ [.resp .ok [if s.ctl = .ready then 1 else 0]] }

/-! ## The whole machine -/

/-- The invariant holds after Reset. -/
def Obligations.ResetIsGood : Prop := Inv State.reset

/-- R29, R31, R40, R43, R47, R60, R71, R134, R143, R272, R273: every step, on whatever event, keeps the invariant. -/
def Obligations.EveryStepKeepsTheInvariant : Prop :=
  ∀ s t : State, Inv s → step s = .next t → Inv t

/-- R6: a step takes at most the event at the head of the queue, writes no parameter, and emits at most one response and
at most one push. -/
def Obligations.StepEmitsAtMostOneOfEach : Prop :=
  ∀ s t : State, step s = .next t →
    t.cfg = s.cfg ∧ t.input = s.input.tail ∧
    ∃ new : List Output, t.out = s.out ++ new ∧
      (new.filter isResp).length ≤ 1 ∧ (new.filter fun o => !isResp o).length ≤ 1

/-- R31, R32, R75 (a): ALPHA and CUTOFF change only by a SET_FILTER accepted in READY, to that command's values, or by
Reset. -/
def Obligations.OnlySetFilterWritesAlpha : Prop :=
  ∀ s t : State, step s = .next t → (t.alpha ≠ s.alpha ∨ t.cutoff ≠ s.cutoff) →
    (∃ (w : CommandWord) (rest : List Event) (u c : Word16),
      s.input = .command w :: rest ∧ decodeCommand w = .ok (.setFilter u c) ∧
      s.seq = .none ∧ s.ctl = .ready ∧ t.alpha = alphaOf s.cfg.fsHz c ∧ t.cutoff = c) ∨
    ∃ rest, s.input = .reset :: rest

/-- R60 (a), R41: a byte of the image changes only by a line sample that completes a CALIBRATION frame of that address
during a parse, to that frame's value, or by Reset. -/
def Obligations.OnlyTheParserWritesTheImage : Prop :=
  ∀ (s t : State) (x : Nat), Memory.wf s.img → step s = .next t → t.img.read x ≠ s.img.read x →
    (∃ (w : LineWord) (rest : List Event) (f : Frame),
      s.input = .line w :: rest ∧ w.getLsbD 1 = true ∧ s.seq = .parse ∧ s.phase = .rise ∧
      s.bit = 0 ∧ f = setFrameBit s.acc 0 (w.getLsbD 0) ∧ f.channel = 7 ∧
      f.calAddress.toNat = x ∧ t.img.read x = f.calValue) ∨
    ∃ rest, s.input = .reset :: rest

/-- R73 (b), R237: a step leaves the revolution counter, adds one to it modulo 2^16, or zeroes it. -/
def Obligations.CounterStepsByOneOrClears : Prop :=
  ∀ s t : State, step s = .next t →
    t.counter = s.counter ∨ t.counter.toNat = (s.counter.toNat + 1) % 65536 ∨ t.counter = 0

/-- R32, R33, R37: CUTOFF, PERIOD, the latched period and the mode change no step: two states that differ in nothing else
go to states that differ in nothing else, and emit the same. -/
def Obligations.InertRegistersChangeNoStep : Prop :=
  ∀ s s' : State, withoutInert s = withoutInert s' →
    ∃ t t' : State, step s = .next t ∧ step s' = .next t' ∧ withoutInert t = withoutInert t'
end

