-- ==== Sys2Proof/Laws/Codec.lean ====
section
/-!
SUPPORT. What the arithmetic primitives (R10) and the entry of an exact integer into a register (R161) do, said once.
-/

namespace Sys2Proof.Machine

/-- `sat32` is the clamp to the 32-bit range. -/
theorem sat32_eq (x : Int) : sat32 x = max (-2147483648) (min 2147483647 x) := by
  unfold sat32
  split
  · omega
  · split <;> omega

/-- `sat16` is the clamp to the 16-bit range. -/
theorem sat16_eq (x : Int) : sat16 x = max (-32768) (min 32767 x) := by
  unfold sat16
  split
  · omega
  · split <;> omega

/-- An integer in range is not changed by `sat32`. -/
theorem sat32_inRange {x : Int} (h : -2147483648 ≤ x) (h' : x ≤ 2147483647) : sat32 x = x := by
  rw [sat32_eq]
  omega

/-- An integer in range is not changed by `sat16`. -/
theorem sat16_inRange {x : Int} (h : -32768 ≤ x) (h' : x ≤ 32767) : sat16 x = x := by
  rw [sat16_eq]
  omega

/-- A Number register holds the saturated integer (R161). -/
theorem toInt_toNumber (x : Int) : (toNumber x).toInt = sat32 x := by
  have h := sat32_eq x
  exact BitVec.toInt_ofInt_eq_self (by decide) (by omega) (by omega)

/-- A wire word holds the saturated integer (R161). -/
theorem toInt_toWire (x : Int) : (toWire x).toInt = sat16 x := by
  have h := sat16_eq x
  exact BitVec.toInt_ofInt_eq_self (by decide) (by omega) (by omega)

/-- The integer of a Number enters a Number register unchanged. -/
@[simp] theorem toNumber_toInt (n : Number) : toNumber n.toInt = n := by
  apply BitVec.eq_of_toInt_eq
  have h1 := BitVec.le_toInt n
  have h2 := BitVec.toInt_lt (x := n)
  rw [toInt_toNumber]
  exact sat32_inRange (by omega) (by omega)

/-- A shift to the left multiplies. -/
theorem floorShift_left (x : Int) (n : Nat) : floorShift x (n : Int) = x * 2 ^ n := by
  simp [floorShift]

/-- A shift to the right divides, rounding toward minus infinity. -/
theorem floorShift_right (x : Int) (n : Nat) : floorShift x (-(n : Int)) = x / 2 ^ n := by
  cases n with
  | zero => simp [floorShift]
  | succ n =>
    show x / ((2 ^ (n + 1) : Nat) : Int) = x / 2 ^ (n + 1)
    push_cast
    rfl

/-- Zero stays zero under every shift. -/
@[simp] theorem floorShift_zero (k : Int) : floorShift 0 k = 0 := by
  unfold floorShift
  split <;> simp

/-- The codec's inverse of Number 0 is the wire word 0, at every NUM_F (R169). -/
@[simp] theorem encodeNumber_zero (numF : Nat) : encodeNumber numF 0 = 0 := by
  have h : (0 : Number).toInt = 0 := by decide
  rw [encodeNumber, h, floorShift_zero]
  decide

end Sys2Proof.Machine
end

