-- ==== Sys2Proof/Laws/State.lean ====
section
/-!
SUPPORT. What each named update of the state leaves in each field, one lemma per field, so that no proof unfolds a record
update.
-/

namespace Sys2Proof.Machine

/-! ### emit -/

@[simp] theorem emit_phase (o : Output) (s : State) : (emit o s).phase = s.phase := rfl
@[simp] theorem emit_bit (o : Output) (s : State) : (emit o s).bit = s.bit := rfl
@[simp] theorem emit_acc (o : Output) (s : State) : (emit o s).acc = s.acc := rfl
@[simp] theorem emit_expect (o : Output) (s : State) : (emit o s).expect = s.expect := rfl
@[simp] theorem emit_raw (o : Output) (s : State) : (emit o s).raw = s.raw := rfl
@[simp] theorem emit_dec (o : Output) (s : State) : (emit o s).dec = s.dec := rfl
@[simp] theorem emit_fil (o : Output) (s : State) : (emit o s).fil = s.fil := rfl
@[simp] theorem emit_off (o : Output) (s : State) : (emit o s).off = s.off := rfl
@[simp] theorem emit_alphaL (o : Output) (s : State) : (emit o s).alphaL = s.alphaL := rfl
@[simp] theorem emit_shared (o : Output) (s : State) : (emit o s).shared = s.shared := rfl
@[simp] theorem emit_counter (o : Output) (s : State) : (emit o s).counter = s.counter := rfl
@[simp] theorem emit_alpha (o : Output) (s : State) : (emit o s).alpha = s.alpha := rfl
@[simp] theorem emit_cutoff (o : Output) (s : State) : (emit o s).cutoff = s.cutoff := rfl
@[simp] theorem emit_period (o : Output) (s : State) : (emit o s).period = s.period := rfl
@[simp] theorem emit_periodL (o : Output) (s : State) : (emit o s).periodL = s.periodL := rfl
@[simp] theorem emit_zeroPending (o : Output) (s : State) : (emit o s).zeroPending = s.zeroPending := rfl
@[simp] theorem emit_stopReq (o : Output) (s : State) : (emit o s).stopReq = s.stopReq := rfl
@[simp] theorem emit_ctl (o : Output) (s : State) : (emit o s).ctl = s.ctl := rfl
@[simp] theorem emit_mode (o : Output) (s : State) : (emit o s).mode = s.mode := rfl
@[simp] theorem emit_decActive (o : Output) (s : State) : (emit o s).decActive = s.decActive := rfl
@[simp] theorem emit_asyncActive (o : Output) (s : State) : (emit o s).asyncActive = s.asyncActive := rfl
@[simp] theorem emit_img (o : Output) (s : State) : (emit o s).img = s.img := rfl
@[simp] theorem emit_coef (o : Output) (s : State) : (emit o s).coef = s.coef := rfl
@[simp] theorem emit_calCount (o : Output) (s : State) : (emit o s).calCount = s.calCount := rfl
@[simp] theorem emit_calLast (o : Output) (s : State) : (emit o s).calLast = s.calLast := rfl
@[simp] theorem emit_fs (o : Output) (s : State) : (emit o s).fs = s.fs := rfl
@[simp] theorem emit_seq (o : Output) (s : State) : (emit o s).seq = s.seq := rfl
@[simp] theorem emit_probeN (o : Output) (s : State) : (emit o s).probeN = s.probeN := rfl
@[simp] theorem emit_probeLast (o : Output) (s : State) : (emit o s).probeLast = s.probeLast := rfl
@[simp] theorem emit_cfg (o : Output) (s : State) : (emit o s).cfg = s.cfg := rfl
@[simp] theorem emit_input (o : Output) (s : State) : (emit o s).input = s.input := rfl
@[simp] theorem emit_out (o : Output) (s : State) : (emit o s).out = s.out ++ [o] := rfl

/-! ### emitResp -/

@[simp] theorem emitResp_phase (st : Status) (ws : List Word16) (s : State) :
    (emitResp st ws s).phase = s.phase := rfl
@[simp] theorem emitResp_bit (st : Status) (ws : List Word16) (s : State) : (emitResp st ws s).bit = s.bit := rfl
@[simp] theorem emitResp_acc (st : Status) (ws : List Word16) (s : State) : (emitResp st ws s).acc = s.acc := rfl
@[simp] theorem emitResp_expect (st : Status) (ws : List Word16) (s : State) :
    (emitResp st ws s).expect = s.expect := rfl
@[simp] theorem emitResp_raw (st : Status) (ws : List Word16) (s : State) : (emitResp st ws s).raw = s.raw := rfl
@[simp] theorem emitResp_dec (st : Status) (ws : List Word16) (s : State) : (emitResp st ws s).dec = s.dec := rfl
@[simp] theorem emitResp_fil (st : Status) (ws : List Word16) (s : State) : (emitResp st ws s).fil = s.fil := rfl
@[simp] theorem emitResp_off (st : Status) (ws : List Word16) (s : State) : (emitResp st ws s).off = s.off := rfl
@[simp] theorem emitResp_alphaL (st : Status) (ws : List Word16) (s : State) :
    (emitResp st ws s).alphaL = s.alphaL := rfl
@[simp] theorem emitResp_shared (st : Status) (ws : List Word16) (s : State) :
    (emitResp st ws s).shared = s.shared := rfl
@[simp] theorem emitResp_counter (st : Status) (ws : List Word16) (s : State) :
    (emitResp st ws s).counter = s.counter := rfl
@[simp] theorem emitResp_alpha (st : Status) (ws : List Word16) (s : State) :
    (emitResp st ws s).alpha = s.alpha := rfl
@[simp] theorem emitResp_cutoff (st : Status) (ws : List Word16) (s : State) :
    (emitResp st ws s).cutoff = s.cutoff := rfl
@[simp] theorem emitResp_period (st : Status) (ws : List Word16) (s : State) :
    (emitResp st ws s).period = s.period := rfl
@[simp] theorem emitResp_periodL (st : Status) (ws : List Word16) (s : State) :
    (emitResp st ws s).periodL = s.periodL := rfl
@[simp] theorem emitResp_zeroPending (st : Status) (ws : List Word16) (s : State) :
    (emitResp st ws s).zeroPending = s.zeroPending := rfl
@[simp] theorem emitResp_stopReq (st : Status) (ws : List Word16) (s : State) :
    (emitResp st ws s).stopReq = s.stopReq := rfl
@[simp] theorem emitResp_ctl (st : Status) (ws : List Word16) (s : State) : (emitResp st ws s).ctl = s.ctl := rfl
@[simp] theorem emitResp_mode (st : Status) (ws : List Word16) (s : State) : (emitResp st ws s).mode = s.mode := rfl
@[simp] theorem emitResp_decActive (st : Status) (ws : List Word16) (s : State) :
    (emitResp st ws s).decActive = s.decActive := rfl
@[simp] theorem emitResp_asyncActive (st : Status) (ws : List Word16) (s : State) :
    (emitResp st ws s).asyncActive = s.asyncActive := rfl
@[simp] theorem emitResp_img (st : Status) (ws : List Word16) (s : State) : (emitResp st ws s).img = s.img := rfl
@[simp] theorem emitResp_coef (st : Status) (ws : List Word16) (s : State) : (emitResp st ws s).coef = s.coef := rfl
@[simp] theorem emitResp_calCount (st : Status) (ws : List Word16) (s : State) :
    (emitResp st ws s).calCount = s.calCount := rfl
@[simp] theorem emitResp_calLast (st : Status) (ws : List Word16) (s : State) :
    (emitResp st ws s).calLast = s.calLast := rfl
@[simp] theorem emitResp_fs (st : Status) (ws : List Word16) (s : State) : (emitResp st ws s).fs = s.fs := rfl
@[simp] theorem emitResp_seq (st : Status) (ws : List Word16) (s : State) : (emitResp st ws s).seq = s.seq := rfl
@[simp] theorem emitResp_probeN (st : Status) (ws : List Word16) (s : State) :
    (emitResp st ws s).probeN = s.probeN := rfl
@[simp] theorem emitResp_probeLast (st : Status) (ws : List Word16) (s : State) :
    (emitResp st ws s).probeLast = s.probeLast := rfl
@[simp] theorem emitResp_cfg (st : Status) (ws : List Word16) (s : State) : (emitResp st ws s).cfg = s.cfg := rfl
@[simp] theorem emitResp_input (st : Status) (ws : List Word16) (s : State) :
    (emitResp st ws s).input = s.input := rfl
@[simp] theorem emitResp_out (st : Status) (ws : List Word16) (s : State) :
    (emitResp st ws s).out = s.out ++ [.resp st ws] := rfl

/-! ### emitPush -/

@[simp] theorem emitPush_phase (s : State) : (emitPush s).phase = s.phase := rfl
@[simp] theorem emitPush_bit (s : State) : (emitPush s).bit = s.bit := rfl
@[simp] theorem emitPush_acc (s : State) : (emitPush s).acc = s.acc := rfl
@[simp] theorem emitPush_expect (s : State) : (emitPush s).expect = s.expect := rfl
@[simp] theorem emitPush_raw (s : State) : (emitPush s).raw = s.raw := rfl
@[simp] theorem emitPush_dec (s : State) : (emitPush s).dec = s.dec := rfl
@[simp] theorem emitPush_fil (s : State) : (emitPush s).fil = s.fil := rfl
@[simp] theorem emitPush_off (s : State) : (emitPush s).off = s.off := rfl
@[simp] theorem emitPush_alphaL (s : State) : (emitPush s).alphaL = s.alphaL := rfl
@[simp] theorem emitPush_shared (s : State) : (emitPush s).shared = s.shared := rfl
@[simp] theorem emitPush_counter (s : State) : (emitPush s).counter = s.counter := rfl
@[simp] theorem emitPush_alpha (s : State) : (emitPush s).alpha = s.alpha := rfl
@[simp] theorem emitPush_cutoff (s : State) : (emitPush s).cutoff = s.cutoff := rfl
@[simp] theorem emitPush_period (s : State) : (emitPush s).period = s.period := rfl
@[simp] theorem emitPush_periodL (s : State) : (emitPush s).periodL = s.periodL := rfl
@[simp] theorem emitPush_zeroPending (s : State) : (emitPush s).zeroPending = s.zeroPending := rfl
@[simp] theorem emitPush_stopReq (s : State) : (emitPush s).stopReq = s.stopReq := rfl
@[simp] theorem emitPush_ctl (s : State) : (emitPush s).ctl = s.ctl := rfl
@[simp] theorem emitPush_mode (s : State) : (emitPush s).mode = s.mode := rfl
@[simp] theorem emitPush_decActive (s : State) : (emitPush s).decActive = s.decActive := rfl
@[simp] theorem emitPush_asyncActive (s : State) : (emitPush s).asyncActive = s.asyncActive := rfl
@[simp] theorem emitPush_img (s : State) : (emitPush s).img = s.img := rfl
@[simp] theorem emitPush_coef (s : State) : (emitPush s).coef = s.coef := rfl
@[simp] theorem emitPush_calCount (s : State) : (emitPush s).calCount = s.calCount := rfl
@[simp] theorem emitPush_calLast (s : State) : (emitPush s).calLast = s.calLast := rfl
@[simp] theorem emitPush_fs (s : State) : (emitPush s).fs = s.fs := rfl
@[simp] theorem emitPush_seq (s : State) : (emitPush s).seq = s.seq := rfl
@[simp] theorem emitPush_probeN (s : State) : (emitPush s).probeN = s.probeN := rfl
@[simp] theorem emitPush_probeLast (s : State) : (emitPush s).probeLast = s.probeLast := rfl
@[simp] theorem emitPush_cfg (s : State) : (emitPush s).cfg = s.cfg := rfl
@[simp] theorem emitPush_input (s : State) : (emitPush s).input = s.input := rfl
@[simp] theorem emitPush_out (s : State) : (emitPush s).out = s.out ++ [.push (sampleRecord s)] := rfl

/-! ### refuse -/

@[simp] theorem refuse_phase (st : Status) (s : State) : (refuse st s).phase = s.phase := rfl
@[simp] theorem refuse_bit (st : Status) (s : State) : (refuse st s).bit = s.bit := rfl
@[simp] theorem refuse_acc (st : Status) (s : State) : (refuse st s).acc = s.acc := rfl
@[simp] theorem refuse_expect (st : Status) (s : State) : (refuse st s).expect = s.expect := rfl
@[simp] theorem refuse_raw (st : Status) (s : State) : (refuse st s).raw = s.raw := rfl
@[simp] theorem refuse_dec (st : Status) (s : State) : (refuse st s).dec = s.dec := rfl
@[simp] theorem refuse_fil (st : Status) (s : State) : (refuse st s).fil = s.fil := rfl
@[simp] theorem refuse_off (st : Status) (s : State) : (refuse st s).off = s.off := rfl
@[simp] theorem refuse_alphaL (st : Status) (s : State) : (refuse st s).alphaL = s.alphaL := rfl
@[simp] theorem refuse_shared (st : Status) (s : State) : (refuse st s).shared = s.shared := rfl
@[simp] theorem refuse_counter (st : Status) (s : State) : (refuse st s).counter = s.counter := rfl
@[simp] theorem refuse_alpha (st : Status) (s : State) : (refuse st s).alpha = s.alpha := rfl
@[simp] theorem refuse_cutoff (st : Status) (s : State) : (refuse st s).cutoff = s.cutoff := rfl
@[simp] theorem refuse_period (st : Status) (s : State) : (refuse st s).period = s.period := rfl
@[simp] theorem refuse_periodL (st : Status) (s : State) : (refuse st s).periodL = s.periodL := rfl
@[simp] theorem refuse_zeroPending (st : Status) (s : State) : (refuse st s).zeroPending = s.zeroPending := rfl
@[simp] theorem refuse_stopReq (st : Status) (s : State) : (refuse st s).stopReq = s.stopReq := rfl
@[simp] theorem refuse_ctl (st : Status) (s : State) : (refuse st s).ctl = s.ctl := rfl
@[simp] theorem refuse_mode (st : Status) (s : State) : (refuse st s).mode = s.mode := rfl
@[simp] theorem refuse_decActive (st : Status) (s : State) : (refuse st s).decActive = s.decActive := rfl
@[simp] theorem refuse_asyncActive (st : Status) (s : State) : (refuse st s).asyncActive = s.asyncActive := rfl
@[simp] theorem refuse_img (st : Status) (s : State) : (refuse st s).img = s.img := rfl
@[simp] theorem refuse_coef (st : Status) (s : State) : (refuse st s).coef = s.coef := rfl
@[simp] theorem refuse_calCount (st : Status) (s : State) : (refuse st s).calCount = s.calCount := rfl
@[simp] theorem refuse_calLast (st : Status) (s : State) : (refuse st s).calLast = s.calLast := rfl
@[simp] theorem refuse_fs (st : Status) (s : State) : (refuse st s).fs = s.fs := rfl
@[simp] theorem refuse_seq (st : Status) (s : State) : (refuse st s).seq = s.seq := rfl
@[simp] theorem refuse_probeN (st : Status) (s : State) : (refuse st s).probeN = s.probeN := rfl
@[simp] theorem refuse_probeLast (st : Status) (s : State) : (refuse st s).probeLast = s.probeLast := rfl
@[simp] theorem refuse_cfg (st : Status) (s : State) : (refuse st s).cfg = s.cfg := rfl
@[simp] theorem refuse_input (st : Status) (s : State) : (refuse st s).input = s.input := rfl
@[simp] theorem refuse_out (st : Status) (s : State) : (refuse st s).out = s.out ++ [.resp st []] := rfl

/-! ### requestZero -/

@[simp] theorem requestZero_phase (s : State) : (requestZero s).phase = s.phase := rfl
@[simp] theorem requestZero_bit (s : State) : (requestZero s).bit = s.bit := rfl
@[simp] theorem requestZero_acc (s : State) : (requestZero s).acc = s.acc := rfl
@[simp] theorem requestZero_expect (s : State) : (requestZero s).expect = s.expect := rfl
@[simp] theorem requestZero_raw (s : State) : (requestZero s).raw = s.raw := rfl
@[simp] theorem requestZero_dec (s : State) : (requestZero s).dec = s.dec := rfl
@[simp] theorem requestZero_fil (s : State) : (requestZero s).fil = s.fil := rfl
@[simp] theorem requestZero_off (s : State) : (requestZero s).off = s.off := rfl
@[simp] theorem requestZero_alphaL (s : State) : (requestZero s).alphaL = s.alphaL := rfl
@[simp] theorem requestZero_shared (s : State) : (requestZero s).shared = s.shared := rfl
@[simp] theorem requestZero_counter (s : State) : (requestZero s).counter = s.counter := rfl
@[simp] theorem requestZero_alpha (s : State) : (requestZero s).alpha = s.alpha := rfl
@[simp] theorem requestZero_cutoff (s : State) : (requestZero s).cutoff = s.cutoff := rfl
@[simp] theorem requestZero_period (s : State) : (requestZero s).period = s.period := rfl
@[simp] theorem requestZero_periodL (s : State) : (requestZero s).periodL = s.periodL := rfl
@[simp] theorem requestZero_zeroPending (s : State) : (requestZero s).zeroPending = true := rfl
@[simp] theorem requestZero_stopReq (s : State) : (requestZero s).stopReq = s.stopReq := rfl
@[simp] theorem requestZero_ctl (s : State) : (requestZero s).ctl = s.ctl := rfl
@[simp] theorem requestZero_mode (s : State) : (requestZero s).mode = s.mode := rfl
@[simp] theorem requestZero_decActive (s : State) : (requestZero s).decActive = s.decActive := rfl
@[simp] theorem requestZero_asyncActive (s : State) : (requestZero s).asyncActive = s.asyncActive := rfl
@[simp] theorem requestZero_img (s : State) : (requestZero s).img = s.img := rfl
@[simp] theorem requestZero_coef (s : State) : (requestZero s).coef = s.coef := rfl
@[simp] theorem requestZero_calCount (s : State) : (requestZero s).calCount = s.calCount := rfl
@[simp] theorem requestZero_calLast (s : State) : (requestZero s).calLast = s.calLast := rfl
@[simp] theorem requestZero_fs (s : State) : (requestZero s).fs = s.fs := rfl
@[simp] theorem requestZero_seq (s : State) : (requestZero s).seq = s.seq := rfl
@[simp] theorem requestZero_probeN (s : State) : (requestZero s).probeN = s.probeN := rfl
@[simp] theorem requestZero_probeLast (s : State) : (requestZero s).probeLast = s.probeLast := rfl
@[simp] theorem requestZero_cfg (s : State) : (requestZero s).cfg = s.cfg := rfl
@[simp] theorem requestZero_input (s : State) : (requestZero s).input = s.input := rfl
@[simp] theorem requestZero_out (s : State) : (requestZero s).out = s.out := rfl

/-! ### requestStop -/

@[simp] theorem requestStop_phase (s : State) : (requestStop s).phase = s.phase := rfl
@[simp] theorem requestStop_bit (s : State) : (requestStop s).bit = s.bit := rfl
@[simp] theorem requestStop_acc (s : State) : (requestStop s).acc = s.acc := rfl
@[simp] theorem requestStop_expect (s : State) : (requestStop s).expect = s.expect := rfl
@[simp] theorem requestStop_raw (s : State) : (requestStop s).raw = s.raw := rfl
@[simp] theorem requestStop_dec (s : State) : (requestStop s).dec = s.dec := rfl
@[simp] theorem requestStop_fil (s : State) : (requestStop s).fil = s.fil := rfl
@[simp] theorem requestStop_off (s : State) : (requestStop s).off = s.off := rfl
@[simp] theorem requestStop_alphaL (s : State) : (requestStop s).alphaL = s.alphaL := rfl
@[simp] theorem requestStop_shared (s : State) : (requestStop s).shared = s.shared := rfl
@[simp] theorem requestStop_counter (s : State) : (requestStop s).counter = s.counter := rfl
@[simp] theorem requestStop_alpha (s : State) : (requestStop s).alpha = s.alpha := rfl
@[simp] theorem requestStop_cutoff (s : State) : (requestStop s).cutoff = s.cutoff := rfl
@[simp] theorem requestStop_period (s : State) : (requestStop s).period = s.period := rfl
@[simp] theorem requestStop_periodL (s : State) : (requestStop s).periodL = s.periodL := rfl
@[simp] theorem requestStop_zeroPending (s : State) : (requestStop s).zeroPending = s.zeroPending := rfl
@[simp] theorem requestStop_stopReq (s : State) : (requestStop s).stopReq = (s.stopReq || running s) := rfl
@[simp] theorem requestStop_ctl (s : State) : (requestStop s).ctl = s.ctl := rfl
@[simp] theorem requestStop_mode (s : State) : (requestStop s).mode = s.mode := rfl
@[simp] theorem requestStop_decActive (s : State) : (requestStop s).decActive = s.decActive := rfl
@[simp] theorem requestStop_asyncActive (s : State) : (requestStop s).asyncActive = s.asyncActive := rfl
@[simp] theorem requestStop_img (s : State) : (requestStop s).img = s.img := rfl
@[simp] theorem requestStop_coef (s : State) : (requestStop s).coef = s.coef := rfl
@[simp] theorem requestStop_calCount (s : State) : (requestStop s).calCount = s.calCount := rfl
@[simp] theorem requestStop_calLast (s : State) : (requestStop s).calLast = s.calLast := rfl
@[simp] theorem requestStop_fs (s : State) : (requestStop s).fs = s.fs := rfl
@[simp] theorem requestStop_seq (s : State) : (requestStop s).seq = s.seq := rfl
@[simp] theorem requestStop_probeN (s : State) : (requestStop s).probeN = s.probeN := rfl
@[simp] theorem requestStop_probeLast (s : State) : (requestStop s).probeLast = s.probeLast := rfl
@[simp] theorem requestStop_cfg (s : State) : (requestStop s).cfg = s.cfg := rfl
@[simp] theorem requestStop_input (s : State) : (requestStop s).input = s.input := rfl
@[simp] theorem requestStop_out (s : State) : (requestStop s).out = s.out := rfl

/-! ### clearRequests -/

@[simp] theorem clearRequests_phase (s : State) : (clearRequests s).phase = s.phase := rfl
@[simp] theorem clearRequests_bit (s : State) : (clearRequests s).bit = s.bit := rfl
@[simp] theorem clearRequests_acc (s : State) : (clearRequests s).acc = s.acc := rfl
@[simp] theorem clearRequests_expect (s : State) : (clearRequests s).expect = s.expect := rfl
@[simp] theorem clearRequests_raw (s : State) : (clearRequests s).raw = s.raw := rfl
@[simp] theorem clearRequests_dec (s : State) : (clearRequests s).dec = s.dec := rfl
@[simp] theorem clearRequests_fil (s : State) : (clearRequests s).fil = s.fil := rfl
@[simp] theorem clearRequests_off (s : State) : (clearRequests s).off = s.off := rfl
@[simp] theorem clearRequests_alphaL (s : State) : (clearRequests s).alphaL = s.alphaL := rfl
@[simp] theorem clearRequests_shared (s : State) : (clearRequests s).shared = s.shared := rfl
@[simp] theorem clearRequests_counter (s : State) : (clearRequests s).counter = s.counter := rfl
@[simp] theorem clearRequests_alpha (s : State) : (clearRequests s).alpha = s.alpha := rfl
@[simp] theorem clearRequests_cutoff (s : State) : (clearRequests s).cutoff = s.cutoff := rfl
@[simp] theorem clearRequests_period (s : State) : (clearRequests s).period = s.period := rfl
@[simp] theorem clearRequests_periodL (s : State) : (clearRequests s).periodL = s.periodL := rfl
@[simp] theorem clearRequests_zeroPending (s : State) : (clearRequests s).zeroPending = false := rfl
@[simp] theorem clearRequests_stopReq (s : State) : (clearRequests s).stopReq = false := rfl
@[simp] theorem clearRequests_ctl (s : State) : (clearRequests s).ctl = s.ctl := rfl
@[simp] theorem clearRequests_mode (s : State) : (clearRequests s).mode = s.mode := rfl
@[simp] theorem clearRequests_decActive (s : State) : (clearRequests s).decActive = s.decActive := rfl
@[simp] theorem clearRequests_asyncActive (s : State) : (clearRequests s).asyncActive = s.asyncActive := rfl
@[simp] theorem clearRequests_img (s : State) : (clearRequests s).img = s.img := rfl
@[simp] theorem clearRequests_coef (s : State) : (clearRequests s).coef = s.coef := rfl
@[simp] theorem clearRequests_calCount (s : State) : (clearRequests s).calCount = s.calCount := rfl
@[simp] theorem clearRequests_calLast (s : State) : (clearRequests s).calLast = s.calLast := rfl
@[simp] theorem clearRequests_fs (s : State) : (clearRequests s).fs = s.fs := rfl
@[simp] theorem clearRequests_seq (s : State) : (clearRequests s).seq = s.seq := rfl
@[simp] theorem clearRequests_probeN (s : State) : (clearRequests s).probeN = s.probeN := rfl
@[simp] theorem clearRequests_probeLast (s : State) : (clearRequests s).probeLast = s.probeLast := rfl
@[simp] theorem clearRequests_cfg (s : State) : (clearRequests s).cfg = s.cfg := rfl
@[simp] theorem clearRequests_input (s : State) : (clearRequests s).input = s.input := rfl
@[simp] theorem clearRequests_out (s : State) : (clearRequests s).out = s.out := rfl

/-! ### clearShared -/

@[simp] theorem clearShared_phase (s : State) : (clearShared s).phase = s.phase := rfl
@[simp] theorem clearShared_bit (s : State) : (clearShared s).bit = s.bit := rfl
@[simp] theorem clearShared_acc (s : State) : (clearShared s).acc = s.acc := rfl
@[simp] theorem clearShared_expect (s : State) : (clearShared s).expect = s.expect := rfl
@[simp] theorem clearShared_raw (s : State) : (clearShared s).raw = s.raw := rfl
@[simp] theorem clearShared_dec (s : State) : (clearShared s).dec = s.dec := rfl
@[simp] theorem clearShared_fil (s : State) : (clearShared s).fil = s.fil := rfl
@[simp] theorem clearShared_off (s : State) : (clearShared s).off = s.off := rfl
@[simp] theorem clearShared_alphaL (s : State) : (clearShared s).alphaL = s.alphaL := rfl
@[simp] theorem clearShared_shared (s : State) : (clearShared s).shared = Six.fill 0 := rfl
@[simp] theorem clearShared_counter (s : State) : (clearShared s).counter = 0 := rfl
@[simp] theorem clearShared_alpha (s : State) : (clearShared s).alpha = s.alpha := rfl
@[simp] theorem clearShared_cutoff (s : State) : (clearShared s).cutoff = s.cutoff := rfl
@[simp] theorem clearShared_period (s : State) : (clearShared s).period = s.period := rfl
@[simp] theorem clearShared_periodL (s : State) : (clearShared s).periodL = s.periodL := rfl
@[simp] theorem clearShared_zeroPending (s : State) : (clearShared s).zeroPending = false := rfl
@[simp] theorem clearShared_stopReq (s : State) : (clearShared s).stopReq = false := rfl
@[simp] theorem clearShared_ctl (s : State) : (clearShared s).ctl = s.ctl := rfl
@[simp] theorem clearShared_mode (s : State) : (clearShared s).mode = .none := rfl
@[simp] theorem clearShared_decActive (s : State) : (clearShared s).decActive = s.decActive := rfl
@[simp] theorem clearShared_asyncActive (s : State) : (clearShared s).asyncActive = s.asyncActive := rfl
@[simp] theorem clearShared_img (s : State) : (clearShared s).img = s.img := rfl
@[simp] theorem clearShared_coef (s : State) : (clearShared s).coef = s.coef := rfl
@[simp] theorem clearShared_calCount (s : State) : (clearShared s).calCount = s.calCount := rfl
@[simp] theorem clearShared_calLast (s : State) : (clearShared s).calLast = s.calLast := rfl
@[simp] theorem clearShared_fs (s : State) : (clearShared s).fs = s.fs := rfl
@[simp] theorem clearShared_seq (s : State) : (clearShared s).seq = s.seq := rfl
@[simp] theorem clearShared_probeN (s : State) : (clearShared s).probeN = s.probeN := rfl
@[simp] theorem clearShared_probeLast (s : State) : (clearShared s).probeLast = s.probeLast := rfl
@[simp] theorem clearShared_cfg (s : State) : (clearShared s).cfg = s.cfg := rfl
@[simp] theorem clearShared_input (s : State) : (clearShared s).input = s.input := rfl
@[simp] theorem clearShared_out (s : State) : (clearShared s).out = s.out := rfl

/-! ### startParse -/

@[simp] theorem startParse_phase (s : State) : (startParse s).phase = .idle := rfl
@[simp] theorem startParse_bit (s : State) : (startParse s).bit = s.bit := rfl
@[simp] theorem startParse_acc (s : State) : (startParse s).acc = s.acc := rfl
@[simp] theorem startParse_expect (s : State) : (startParse s).expect = s.expect := rfl
@[simp] theorem startParse_raw (s : State) : (startParse s).raw = s.raw := rfl
@[simp] theorem startParse_dec (s : State) : (startParse s).dec = s.dec := rfl
@[simp] theorem startParse_fil (s : State) : (startParse s).fil = s.fil := rfl
@[simp] theorem startParse_off (s : State) : (startParse s).off = s.off := rfl
@[simp] theorem startParse_alphaL (s : State) : (startParse s).alphaL = s.alphaL := rfl
@[simp] theorem startParse_shared (s : State) : (startParse s).shared = s.shared := rfl
@[simp] theorem startParse_counter (s : State) : (startParse s).counter = s.counter := rfl
@[simp] theorem startParse_alpha (s : State) : (startParse s).alpha = s.alpha := rfl
@[simp] theorem startParse_cutoff (s : State) : (startParse s).cutoff = s.cutoff := rfl
@[simp] theorem startParse_period (s : State) : (startParse s).period = s.period := rfl
@[simp] theorem startParse_periodL (s : State) : (startParse s).periodL = s.periodL := rfl
@[simp] theorem startParse_zeroPending (s : State) : (startParse s).zeroPending = s.zeroPending := rfl
@[simp] theorem startParse_stopReq (s : State) : (startParse s).stopReq = s.stopReq := rfl
@[simp] theorem startParse_ctl (s : State) : (startParse s).ctl = .uninitialized := rfl
@[simp] theorem startParse_mode (s : State) : (startParse s).mode = s.mode := rfl
@[simp] theorem startParse_decActive (s : State) : (startParse s).decActive = s.decActive := rfl
@[simp] theorem startParse_asyncActive (s : State) : (startParse s).asyncActive = s.asyncActive := rfl
@[simp] theorem startParse_img (s : State) : (startParse s).img = s.img := rfl
@[simp] theorem startParse_coef (s : State) : (startParse s).coef = s.coef := rfl
@[simp] theorem startParse_calCount (s : State) : (startParse s).calCount = 0 := rfl
@[simp] theorem startParse_calLast (s : State) : (startParse s).calLast = s.calLast := rfl
@[simp] theorem startParse_fs (s : State) : (startParse s).fs = s.fs := rfl
@[simp] theorem startParse_seq (s : State) : (startParse s).seq = .parse := rfl
@[simp] theorem startParse_probeN (s : State) : (startParse s).probeN = s.probeN := rfl
@[simp] theorem startParse_probeLast (s : State) : (startParse s).probeLast = s.probeLast := rfl
@[simp] theorem startParse_cfg (s : State) : (startParse s).cfg = s.cfg := rfl
@[simp] theorem startParse_input (s : State) : (startParse s).input = s.input := rfl
@[simp] theorem startParse_out (s : State) : (startParse s).out = s.out := rfl

/-! ### startProcedure -/

@[simp] theorem startProcedure_phase (m : Mode) (s : State) : (startProcedure m s).phase = .idle := rfl
@[simp] theorem startProcedure_bit (m : Mode) (s : State) : (startProcedure m s).bit = s.bit := rfl
@[simp] theorem startProcedure_acc (m : Mode) (s : State) : (startProcedure m s).acc = s.acc := rfl
@[simp] theorem startProcedure_expect (m : Mode) (s : State) : (startProcedure m s).expect = .forceX := rfl
@[simp] theorem startProcedure_raw (m : Mode) (s : State) : (startProcedure m s).raw = s.raw := rfl
@[simp] theorem startProcedure_dec (m : Mode) (s : State) : (startProcedure m s).dec = s.dec := rfl
@[simp] theorem startProcedure_fil (m : Mode) (s : State) : (startProcedure m s).fil = Six.fill 0 := rfl
@[simp] theorem startProcedure_off (m : Mode) (s : State) : (startProcedure m s).off = Six.fill 0 := rfl
@[simp] theorem startProcedure_alphaL (m : Mode) (s : State) : (startProcedure m s).alphaL = s.alpha := rfl
@[simp] theorem startProcedure_shared (m : Mode) (s : State) : (startProcedure m s).shared = s.shared := rfl
@[simp] theorem startProcedure_counter (m : Mode) (s : State) : (startProcedure m s).counter = s.counter := rfl
@[simp] theorem startProcedure_alpha (m : Mode) (s : State) : (startProcedure m s).alpha = s.alpha := rfl
@[simp] theorem startProcedure_cutoff (m : Mode) (s : State) : (startProcedure m s).cutoff = s.cutoff := rfl
@[simp] theorem startProcedure_period (m : Mode) (s : State) : (startProcedure m s).period = s.period := rfl
@[simp] theorem startProcedure_periodL (m : Mode) (s : State) : (startProcedure m s).periodL = s.periodL := rfl
@[simp] theorem startProcedure_zeroPending (m : Mode) (s : State) :
    (startProcedure m s).zeroPending = s.zeroPending := rfl
@[simp] theorem startProcedure_stopReq (m : Mode) (s : State) : (startProcedure m s).stopReq = s.stopReq := rfl
@[simp] theorem startProcedure_ctl (m : Mode) (s : State) : (startProcedure m s).ctl = s.ctl := rfl
@[simp] theorem startProcedure_mode (m : Mode) (s : State) : (startProcedure m s).mode = m := rfl
@[simp] theorem startProcedure_decActive (m : Mode) (s : State) : (startProcedure m s).decActive = true := rfl
@[simp] theorem startProcedure_asyncActive (m : Mode) (s : State) :
    (startProcedure m s).asyncActive = s.asyncActive := rfl
@[simp] theorem startProcedure_img (m : Mode) (s : State) : (startProcedure m s).img = s.img := rfl
@[simp] theorem startProcedure_coef (m : Mode) (s : State) : (startProcedure m s).coef = s.coef := rfl
@[simp] theorem startProcedure_calCount (m : Mode) (s : State) : (startProcedure m s).calCount = s.calCount := rfl
@[simp] theorem startProcedure_calLast (m : Mode) (s : State) : (startProcedure m s).calLast = s.calLast := rfl
@[simp] theorem startProcedure_fs (m : Mode) (s : State) : (startProcedure m s).fs = s.fs := rfl
@[simp] theorem startProcedure_seq (m : Mode) (s : State) : (startProcedure m s).seq = s.seq := rfl
@[simp] theorem startProcedure_probeN (m : Mode) (s : State) : (startProcedure m s).probeN = s.probeN := rfl
@[simp] theorem startProcedure_probeLast (m : Mode) (s : State) : (startProcedure m s).probeLast = s.probeLast := rfl
@[simp] theorem startProcedure_cfg (m : Mode) (s : State) : (startProcedure m s).cfg = s.cfg := rfl
@[simp] theorem startProcedure_input (m : Mode) (s : State) : (startProcedure m s).input = s.input := rfl
@[simp] theorem startProcedure_out (m : Mode) (s : State) : (startProcedure m s).out = s.out := rfl

/-! ### finishStartSync -/

@[simp] theorem finishStartSync_phase (s : State) : (finishStartSync s).phase = .idle := rfl
@[simp] theorem finishStartSync_bit (s : State) : (finishStartSync s).bit = s.bit := rfl
@[simp] theorem finishStartSync_acc (s : State) : (finishStartSync s).acc = s.acc := rfl
@[simp] theorem finishStartSync_expect (s : State) : (finishStartSync s).expect = .forceX := rfl
@[simp] theorem finishStartSync_raw (s : State) : (finishStartSync s).raw = s.raw := rfl
@[simp] theorem finishStartSync_dec (s : State) : (finishStartSync s).dec = s.dec := rfl
@[simp] theorem finishStartSync_fil (s : State) : (finishStartSync s).fil = Six.fill 0 := rfl
@[simp] theorem finishStartSync_off (s : State) : (finishStartSync s).off = Six.fill 0 := rfl
@[simp] theorem finishStartSync_alphaL (s : State) : (finishStartSync s).alphaL = s.alpha := rfl
@[simp] theorem finishStartSync_shared (s : State) : (finishStartSync s).shared = s.shared := rfl
@[simp] theorem finishStartSync_counter (s : State) : (finishStartSync s).counter = s.counter := rfl
@[simp] theorem finishStartSync_alpha (s : State) : (finishStartSync s).alpha = s.alpha := rfl
@[simp] theorem finishStartSync_cutoff (s : State) : (finishStartSync s).cutoff = s.cutoff := rfl
@[simp] theorem finishStartSync_period (s : State) : (finishStartSync s).period = s.period := rfl
@[simp] theorem finishStartSync_periodL (s : State) : (finishStartSync s).periodL = s.periodL := rfl
@[simp] theorem finishStartSync_zeroPending (s : State) : (finishStartSync s).zeroPending = s.zeroPending := rfl
@[simp] theorem finishStartSync_stopReq (s : State) : (finishStartSync s).stopReq = s.stopReq := rfl
@[simp] theorem finishStartSync_ctl (s : State) : (finishStartSync s).ctl = s.ctl := rfl
@[simp] theorem finishStartSync_mode (s : State) : (finishStartSync s).mode = .sync := rfl
@[simp] theorem finishStartSync_decActive (s : State) : (finishStartSync s).decActive = true := rfl
@[simp] theorem finishStartSync_asyncActive (s : State) : (finishStartSync s).asyncActive = s.asyncActive := rfl
@[simp] theorem finishStartSync_img (s : State) : (finishStartSync s).img = s.img := rfl
@[simp] theorem finishStartSync_coef (s : State) : (finishStartSync s).coef = s.coef := rfl
@[simp] theorem finishStartSync_calCount (s : State) : (finishStartSync s).calCount = s.calCount := rfl
@[simp] theorem finishStartSync_calLast (s : State) : (finishStartSync s).calLast = s.calLast := rfl
@[simp] theorem finishStartSync_fs (s : State) : (finishStartSync s).fs = s.fs := rfl
@[simp] theorem finishStartSync_seq (s : State) : (finishStartSync s).seq = .none := rfl
@[simp] theorem finishStartSync_probeN (s : State) : (finishStartSync s).probeN = s.probeN := rfl
@[simp] theorem finishStartSync_probeLast (s : State) : (finishStartSync s).probeLast = s.probeLast := rfl
@[simp] theorem finishStartSync_cfg (s : State) : (finishStartSync s).cfg = s.cfg := rfl
@[simp] theorem finishStartSync_input (s : State) : (finishStartSync s).input = s.input := rfl
@[simp] theorem finishStartSync_out (s : State) : (finishStartSync s).out = s.out ++ [.resp .ok []] := rfl

/-! ### startAsyncAgent -/

@[simp] theorem startAsyncAgent_phase (p : Word32) (s : State) : (startAsyncAgent p s).phase = .idle := rfl
@[simp] theorem startAsyncAgent_bit (p : Word32) (s : State) : (startAsyncAgent p s).bit = s.bit := rfl
@[simp] theorem startAsyncAgent_acc (p : Word32) (s : State) : (startAsyncAgent p s).acc = s.acc := rfl
@[simp] theorem startAsyncAgent_expect (p : Word32) (s : State) : (startAsyncAgent p s).expect = .forceX := rfl
@[simp] theorem startAsyncAgent_raw (p : Word32) (s : State) : (startAsyncAgent p s).raw = s.raw := rfl
@[simp] theorem startAsyncAgent_dec (p : Word32) (s : State) : (startAsyncAgent p s).dec = s.dec := rfl
@[simp] theorem startAsyncAgent_fil (p : Word32) (s : State) : (startAsyncAgent p s).fil = Six.fill 0 := rfl
@[simp] theorem startAsyncAgent_off (p : Word32) (s : State) : (startAsyncAgent p s).off = Six.fill 0 := rfl
@[simp] theorem startAsyncAgent_alphaL (p : Word32) (s : State) : (startAsyncAgent p s).alphaL = s.alpha := rfl
@[simp] theorem startAsyncAgent_shared (p : Word32) (s : State) : (startAsyncAgent p s).shared = s.shared := rfl
@[simp] theorem startAsyncAgent_counter (p : Word32) (s : State) : (startAsyncAgent p s).counter = s.counter := rfl
@[simp] theorem startAsyncAgent_alpha (p : Word32) (s : State) : (startAsyncAgent p s).alpha = s.alpha := rfl
@[simp] theorem startAsyncAgent_cutoff (p : Word32) (s : State) : (startAsyncAgent p s).cutoff = s.cutoff := rfl
@[simp] theorem startAsyncAgent_period (p : Word32) (s : State) : (startAsyncAgent p s).period = p := rfl
@[simp] theorem startAsyncAgent_periodL (p : Word32) (s : State) : (startAsyncAgent p s).periodL = p := rfl
@[simp] theorem startAsyncAgent_zeroPending (p : Word32) (s : State) :
    (startAsyncAgent p s).zeroPending = s.zeroPending := rfl
@[simp] theorem startAsyncAgent_stopReq (p : Word32) (s : State) : (startAsyncAgent p s).stopReq = s.stopReq := rfl
@[simp] theorem startAsyncAgent_ctl (p : Word32) (s : State) : (startAsyncAgent p s).ctl = s.ctl := rfl
@[simp] theorem startAsyncAgent_mode (p : Word32) (s : State) : (startAsyncAgent p s).mode = .async := rfl
@[simp] theorem startAsyncAgent_decActive (p : Word32) (s : State) : (startAsyncAgent p s).decActive = true := rfl
@[simp] theorem startAsyncAgent_asyncActive (p : Word32) (s : State) : (startAsyncAgent p s).asyncActive = true := rfl
@[simp] theorem startAsyncAgent_img (p : Word32) (s : State) : (startAsyncAgent p s).img = s.img := rfl
@[simp] theorem startAsyncAgent_coef (p : Word32) (s : State) : (startAsyncAgent p s).coef = s.coef := rfl
@[simp] theorem startAsyncAgent_calCount (p : Word32) (s : State) : (startAsyncAgent p s).calCount = s.calCount := rfl
@[simp] theorem startAsyncAgent_calLast (p : Word32) (s : State) : (startAsyncAgent p s).calLast = s.calLast := rfl
@[simp] theorem startAsyncAgent_fs (p : Word32) (s : State) : (startAsyncAgent p s).fs = s.fs := rfl
@[simp] theorem startAsyncAgent_seq (p : Word32) (s : State) : (startAsyncAgent p s).seq = s.seq := rfl
@[simp] theorem startAsyncAgent_probeN (p : Word32) (s : State) : (startAsyncAgent p s).probeN = s.probeN := rfl
@[simp] theorem startAsyncAgent_probeLast (p : Word32) (s : State) :
    (startAsyncAgent p s).probeLast = s.probeLast := rfl
@[simp] theorem startAsyncAgent_cfg (p : Word32) (s : State) : (startAsyncAgent p s).cfg = s.cfg := rfl
@[simp] theorem startAsyncAgent_input (p : Word32) (s : State) : (startAsyncAgent p s).input = s.input := rfl
@[simp] theorem startAsyncAgent_out (p : Word32) (s : State) : (startAsyncAgent p s).out = s.out := rfl

/-! ### finishStartAsync -/

@[simp] theorem finishStartAsync_phase (p : Word32) (s : State) : (finishStartAsync p s).phase = .idle := rfl
@[simp] theorem finishStartAsync_bit (p : Word32) (s : State) : (finishStartAsync p s).bit = s.bit := rfl
@[simp] theorem finishStartAsync_acc (p : Word32) (s : State) : (finishStartAsync p s).acc = s.acc := rfl
@[simp] theorem finishStartAsync_expect (p : Word32) (s : State) : (finishStartAsync p s).expect = .forceX := rfl
@[simp] theorem finishStartAsync_raw (p : Word32) (s : State) : (finishStartAsync p s).raw = s.raw := rfl
@[simp] theorem finishStartAsync_dec (p : Word32) (s : State) : (finishStartAsync p s).dec = s.dec := rfl
@[simp] theorem finishStartAsync_fil (p : Word32) (s : State) : (finishStartAsync p s).fil = Six.fill 0 := rfl
@[simp] theorem finishStartAsync_off (p : Word32) (s : State) : (finishStartAsync p s).off = Six.fill 0 := rfl
@[simp] theorem finishStartAsync_alphaL (p : Word32) (s : State) : (finishStartAsync p s).alphaL = s.alpha := rfl
@[simp] theorem finishStartAsync_shared (p : Word32) (s : State) : (finishStartAsync p s).shared = s.shared := rfl
@[simp] theorem finishStartAsync_counter (p : Word32) (s : State) : (finishStartAsync p s).counter = s.counter := rfl
@[simp] theorem finishStartAsync_alpha (p : Word32) (s : State) : (finishStartAsync p s).alpha = s.alpha := rfl
@[simp] theorem finishStartAsync_cutoff (p : Word32) (s : State) : (finishStartAsync p s).cutoff = s.cutoff := rfl
@[simp] theorem finishStartAsync_period (p : Word32) (s : State) : (finishStartAsync p s).period = p := rfl
@[simp] theorem finishStartAsync_periodL (p : Word32) (s : State) : (finishStartAsync p s).periodL = p := rfl
@[simp] theorem finishStartAsync_zeroPending (p : Word32) (s : State) :
    (finishStartAsync p s).zeroPending = s.zeroPending := rfl
@[simp] theorem finishStartAsync_stopReq (p : Word32) (s : State) : (finishStartAsync p s).stopReq = s.stopReq := rfl
@[simp] theorem finishStartAsync_ctl (p : Word32) (s : State) : (finishStartAsync p s).ctl = s.ctl := rfl
@[simp] theorem finishStartAsync_mode (p : Word32) (s : State) : (finishStartAsync p s).mode = .async := rfl
@[simp] theorem finishStartAsync_decActive (p : Word32) (s : State) : (finishStartAsync p s).decActive = true := rfl
@[simp] theorem finishStartAsync_asyncActive (p : Word32) (s : State) :
    (finishStartAsync p s).asyncActive = true := rfl
@[simp] theorem finishStartAsync_img (p : Word32) (s : State) : (finishStartAsync p s).img = s.img := rfl
@[simp] theorem finishStartAsync_coef (p : Word32) (s : State) : (finishStartAsync p s).coef = s.coef := rfl
@[simp] theorem finishStartAsync_calCount (p : Word32) (s : State) :
    (finishStartAsync p s).calCount = s.calCount := rfl
@[simp] theorem finishStartAsync_calLast (p : Word32) (s : State) : (finishStartAsync p s).calLast = s.calLast := rfl
@[simp] theorem finishStartAsync_fs (p : Word32) (s : State) : (finishStartAsync p s).fs = s.fs := rfl
@[simp] theorem finishStartAsync_seq (p : Word32) (s : State) : (finishStartAsync p s).seq = .none := rfl
@[simp] theorem finishStartAsync_probeN (p : Word32) (s : State) : (finishStartAsync p s).probeN = s.probeN := rfl
@[simp] theorem finishStartAsync_probeLast (p : Word32) (s : State) :
    (finishStartAsync p s).probeLast = s.probeLast := rfl
@[simp] theorem finishStartAsync_cfg (p : Word32) (s : State) : (finishStartAsync p s).cfg = s.cfg := rfl
@[simp] theorem finishStartAsync_input (p : Word32) (s : State) : (finishStartAsync p s).input = s.input := rfl
@[simp] theorem finishStartAsync_out (p : Word32) (s : State) :
    (finishStartAsync p s).out = s.out ++ [.push (sampleRecord s)] ++ [.resp .ok []] := rfl

/-! ### sequenceBreak -/

@[simp] theorem sequenceBreak_phase (s : State) : (sequenceBreak s).phase = s.phase := rfl
@[simp] theorem sequenceBreak_bit (s : State) : (sequenceBreak s).bit = s.bit := rfl
@[simp] theorem sequenceBreak_acc (s : State) : (sequenceBreak s).acc = s.acc := rfl
@[simp] theorem sequenceBreak_expect (s : State) : (sequenceBreak s).expect = .forceX := rfl
@[simp] theorem sequenceBreak_raw (s : State) : (sequenceBreak s).raw = s.raw := rfl
@[simp] theorem sequenceBreak_dec (s : State) : (sequenceBreak s).dec = s.dec := rfl
@[simp] theorem sequenceBreak_fil (s : State) : (sequenceBreak s).fil = s.fil := rfl
@[simp] theorem sequenceBreak_off (s : State) : (sequenceBreak s).off = s.off := rfl
@[simp] theorem sequenceBreak_alphaL (s : State) : (sequenceBreak s).alphaL = s.alphaL := rfl
@[simp] theorem sequenceBreak_shared (s : State) : (sequenceBreak s).shared = s.shared := rfl
@[simp] theorem sequenceBreak_counter (s : State) : (sequenceBreak s).counter = s.counter := rfl
@[simp] theorem sequenceBreak_alpha (s : State) : (sequenceBreak s).alpha = s.alpha := rfl
@[simp] theorem sequenceBreak_cutoff (s : State) : (sequenceBreak s).cutoff = s.cutoff := rfl
@[simp] theorem sequenceBreak_period (s : State) : (sequenceBreak s).period = s.period := rfl
@[simp] theorem sequenceBreak_periodL (s : State) : (sequenceBreak s).periodL = s.periodL := rfl
@[simp] theorem sequenceBreak_zeroPending (s : State) : (sequenceBreak s).zeroPending = s.zeroPending := rfl
@[simp] theorem sequenceBreak_stopReq (s : State) : (sequenceBreak s).stopReq = s.stopReq := rfl
@[simp] theorem sequenceBreak_ctl (s : State) : (sequenceBreak s).ctl = s.ctl := rfl
@[simp] theorem sequenceBreak_mode (s : State) : (sequenceBreak s).mode = s.mode := rfl
@[simp] theorem sequenceBreak_decActive (s : State) : (sequenceBreak s).decActive = s.decActive := rfl
@[simp] theorem sequenceBreak_asyncActive (s : State) : (sequenceBreak s).asyncActive = s.asyncActive := rfl
@[simp] theorem sequenceBreak_img (s : State) : (sequenceBreak s).img = s.img := rfl
@[simp] theorem sequenceBreak_coef (s : State) : (sequenceBreak s).coef = s.coef := rfl
@[simp] theorem sequenceBreak_calCount (s : State) : (sequenceBreak s).calCount = s.calCount := rfl
@[simp] theorem sequenceBreak_calLast (s : State) : (sequenceBreak s).calLast = s.calLast := rfl
@[simp] theorem sequenceBreak_fs (s : State) : (sequenceBreak s).fs = s.fs := rfl
@[simp] theorem sequenceBreak_seq (s : State) : (sequenceBreak s).seq = s.seq := rfl
@[simp] theorem sequenceBreak_probeN (s : State) : (sequenceBreak s).probeN = s.probeN := rfl
@[simp] theorem sequenceBreak_probeLast (s : State) : (sequenceBreak s).probeLast = s.probeLast := rfl
@[simp] theorem sequenceBreak_cfg (s : State) : (sequenceBreak s).cfg = s.cfg := rfl
@[simp] theorem sequenceBreak_input (s : State) : (sequenceBreak s).input = s.input := rfl
@[simp] theorem sequenceBreak_out (s : State) : (sequenceBreak s).out = s.out := rfl

/-! ### storeRaw -/

@[simp] theorem storeRaw_phase (a : Axis) (p : Word16) (s : State) : (storeRaw a p s).phase = s.phase := rfl
@[simp] theorem storeRaw_bit (a : Axis) (p : Word16) (s : State) : (storeRaw a p s).bit = s.bit := rfl
@[simp] theorem storeRaw_acc (a : Axis) (p : Word16) (s : State) : (storeRaw a p s).acc = s.acc := rfl
@[simp] theorem storeRaw_expect (a : Axis) (p : Word16) (s : State) : (storeRaw a p s).expect = s.expect := rfl
@[simp] theorem storeRaw_raw (a : Axis) (p : Word16) (s : State) :
    (storeRaw a p s).raw = s.raw.set a (decodeRaw s.cfg.numF p) := rfl
@[simp] theorem storeRaw_dec (a : Axis) (p : Word16) (s : State) : (storeRaw a p s).dec = s.dec := rfl
@[simp] theorem storeRaw_fil (a : Axis) (p : Word16) (s : State) : (storeRaw a p s).fil = s.fil := rfl
@[simp] theorem storeRaw_off (a : Axis) (p : Word16) (s : State) : (storeRaw a p s).off = s.off := rfl
@[simp] theorem storeRaw_alphaL (a : Axis) (p : Word16) (s : State) : (storeRaw a p s).alphaL = s.alphaL := rfl
@[simp] theorem storeRaw_shared (a : Axis) (p : Word16) (s : State) : (storeRaw a p s).shared = s.shared := rfl
@[simp] theorem storeRaw_counter (a : Axis) (p : Word16) (s : State) : (storeRaw a p s).counter = s.counter := rfl
@[simp] theorem storeRaw_alpha (a : Axis) (p : Word16) (s : State) : (storeRaw a p s).alpha = s.alpha := rfl
@[simp] theorem storeRaw_cutoff (a : Axis) (p : Word16) (s : State) : (storeRaw a p s).cutoff = s.cutoff := rfl
@[simp] theorem storeRaw_period (a : Axis) (p : Word16) (s : State) : (storeRaw a p s).period = s.period := rfl
@[simp] theorem storeRaw_periodL (a : Axis) (p : Word16) (s : State) : (storeRaw a p s).periodL = s.periodL := rfl
@[simp] theorem storeRaw_zeroPending (a : Axis) (p : Word16) (s : State) :
    (storeRaw a p s).zeroPending = s.zeroPending := rfl
@[simp] theorem storeRaw_stopReq (a : Axis) (p : Word16) (s : State) : (storeRaw a p s).stopReq = s.stopReq := rfl
@[simp] theorem storeRaw_ctl (a : Axis) (p : Word16) (s : State) : (storeRaw a p s).ctl = s.ctl := rfl
@[simp] theorem storeRaw_mode (a : Axis) (p : Word16) (s : State) : (storeRaw a p s).mode = s.mode := rfl
@[simp] theorem storeRaw_decActive (a : Axis) (p : Word16) (s : State) :
    (storeRaw a p s).decActive = s.decActive := rfl
@[simp] theorem storeRaw_asyncActive (a : Axis) (p : Word16) (s : State) :
    (storeRaw a p s).asyncActive = s.asyncActive := rfl
@[simp] theorem storeRaw_img (a : Axis) (p : Word16) (s : State) : (storeRaw a p s).img = s.img := rfl
@[simp] theorem storeRaw_coef (a : Axis) (p : Word16) (s : State) : (storeRaw a p s).coef = s.coef := rfl
@[simp] theorem storeRaw_calCount (a : Axis) (p : Word16) (s : State) : (storeRaw a p s).calCount = s.calCount := rfl
@[simp] theorem storeRaw_calLast (a : Axis) (p : Word16) (s : State) : (storeRaw a p s).calLast = s.calLast := rfl
@[simp] theorem storeRaw_fs (a : Axis) (p : Word16) (s : State) : (storeRaw a p s).fs = s.fs := rfl
@[simp] theorem storeRaw_seq (a : Axis) (p : Word16) (s : State) : (storeRaw a p s).seq = s.seq := rfl
@[simp] theorem storeRaw_probeN (a : Axis) (p : Word16) (s : State) : (storeRaw a p s).probeN = s.probeN := rfl
@[simp] theorem storeRaw_probeLast (a : Axis) (p : Word16) (s : State) :
    (storeRaw a p s).probeLast = s.probeLast := rfl
@[simp] theorem storeRaw_cfg (a : Axis) (p : Word16) (s : State) : (storeRaw a p s).cfg = s.cfg := rfl
@[simp] theorem storeRaw_input (a : Axis) (p : Word16) (s : State) : (storeRaw a p s).input = s.input := rfl
@[simp] theorem storeRaw_out (a : Axis) (p : Word16) (s : State) : (storeRaw a p s).out = s.out := rfl

/-! ### storeByte -/

@[simp] theorem storeByte_phase (a v : Byte) (s : State) : (storeByte a v s).phase = s.phase := rfl
@[simp] theorem storeByte_bit (a v : Byte) (s : State) : (storeByte a v s).bit = s.bit := rfl
@[simp] theorem storeByte_acc (a v : Byte) (s : State) : (storeByte a v s).acc = s.acc := rfl
@[simp] theorem storeByte_expect (a v : Byte) (s : State) : (storeByte a v s).expect = s.expect := rfl
@[simp] theorem storeByte_raw (a v : Byte) (s : State) : (storeByte a v s).raw = s.raw := rfl
@[simp] theorem storeByte_dec (a v : Byte) (s : State) : (storeByte a v s).dec = s.dec := rfl
@[simp] theorem storeByte_fil (a v : Byte) (s : State) : (storeByte a v s).fil = s.fil := rfl
@[simp] theorem storeByte_off (a v : Byte) (s : State) : (storeByte a v s).off = s.off := rfl
@[simp] theorem storeByte_alphaL (a v : Byte) (s : State) : (storeByte a v s).alphaL = s.alphaL := rfl
@[simp] theorem storeByte_shared (a v : Byte) (s : State) : (storeByte a v s).shared = s.shared := rfl
@[simp] theorem storeByte_counter (a v : Byte) (s : State) : (storeByte a v s).counter = s.counter := rfl
@[simp] theorem storeByte_alpha (a v : Byte) (s : State) : (storeByte a v s).alpha = s.alpha := rfl
@[simp] theorem storeByte_cutoff (a v : Byte) (s : State) : (storeByte a v s).cutoff = s.cutoff := rfl
@[simp] theorem storeByte_period (a v : Byte) (s : State) : (storeByte a v s).period = s.period := rfl
@[simp] theorem storeByte_periodL (a v : Byte) (s : State) : (storeByte a v s).periodL = s.periodL := rfl
@[simp] theorem storeByte_zeroPending (a v : Byte) (s : State) : (storeByte a v s).zeroPending = s.zeroPending := rfl
@[simp] theorem storeByte_stopReq (a v : Byte) (s : State) : (storeByte a v s).stopReq = s.stopReq := rfl
@[simp] theorem storeByte_ctl (a v : Byte) (s : State) : (storeByte a v s).ctl = s.ctl := rfl
@[simp] theorem storeByte_mode (a v : Byte) (s : State) : (storeByte a v s).mode = s.mode := rfl
@[simp] theorem storeByte_decActive (a v : Byte) (s : State) : (storeByte a v s).decActive = s.decActive := rfl
@[simp] theorem storeByte_asyncActive (a v : Byte) (s : State) : (storeByte a v s).asyncActive = s.asyncActive := rfl
@[simp] theorem storeByte_img (a v : Byte) (s : State) : (storeByte a v s).img = s.img.write a.toNat v := rfl
@[simp] theorem storeByte_coef (a v : Byte) (s : State) : (storeByte a v s).coef = s.coef := rfl
@[simp] theorem storeByte_calCount (a v : Byte) (s : State) : (storeByte a v s).calCount = s.calCount + 1 := rfl
@[simp] theorem storeByte_calLast (a v : Byte) (s : State) : (storeByte a v s).calLast = a := rfl
@[simp] theorem storeByte_fs (a v : Byte) (s : State) : (storeByte a v s).fs = s.fs := rfl
@[simp] theorem storeByte_seq (a v : Byte) (s : State) : (storeByte a v s).seq = s.seq := rfl
@[simp] theorem storeByte_probeN (a v : Byte) (s : State) : (storeByte a v s).probeN = s.probeN := rfl
@[simp] theorem storeByte_probeLast (a v : Byte) (s : State) : (storeByte a v s).probeLast = s.probeLast := rfl
@[simp] theorem storeByte_cfg (a v : Byte) (s : State) : (storeByte a v s).cfg = s.cfg := rfl
@[simp] theorem storeByte_input (a v : Byte) (s : State) : (storeByte a v s).input = s.input := rfl
@[simp] theorem storeByte_out (a v : Byte) (s : State) : (storeByte a v s).out = s.out := rfl

/-! ### completeParse -/

@[simp] theorem completeParse_phase (s : State) : (completeParse s).phase = s.phase := rfl
@[simp] theorem completeParse_bit (s : State) : (completeParse s).bit = s.bit := rfl
@[simp] theorem completeParse_acc (s : State) : (completeParse s).acc = s.acc := rfl
@[simp] theorem completeParse_expect (s : State) : (completeParse s).expect = s.expect := rfl
@[simp] theorem completeParse_raw (s : State) : (completeParse s).raw = s.raw := rfl
@[simp] theorem completeParse_dec (s : State) : (completeParse s).dec = s.dec := rfl
@[simp] theorem completeParse_fil (s : State) : (completeParse s).fil = s.fil := rfl
@[simp] theorem completeParse_off (s : State) : (completeParse s).off = s.off := rfl
@[simp] theorem completeParse_alphaL (s : State) : (completeParse s).alphaL = s.alphaL := rfl
@[simp] theorem completeParse_shared (s : State) : (completeParse s).shared = s.shared := rfl
@[simp] theorem completeParse_counter (s : State) : (completeParse s).counter = s.counter := rfl
@[simp] theorem completeParse_alpha (s : State) : (completeParse s).alpha = s.alpha := rfl
@[simp] theorem completeParse_cutoff (s : State) : (completeParse s).cutoff = s.cutoff := rfl
@[simp] theorem completeParse_period (s : State) : (completeParse s).period = s.period := rfl
@[simp] theorem completeParse_periodL (s : State) : (completeParse s).periodL = s.periodL := rfl
@[simp] theorem completeParse_zeroPending (s : State) : (completeParse s).zeroPending = s.zeroPending := rfl
@[simp] theorem completeParse_stopReq (s : State) : (completeParse s).stopReq = s.stopReq := rfl
@[simp] theorem completeParse_ctl (s : State) : (completeParse s).ctl = .ready := rfl
@[simp] theorem completeParse_mode (s : State) : (completeParse s).mode = s.mode := rfl
@[simp] theorem completeParse_decActive (s : State) : (completeParse s).decActive = s.decActive := rfl
@[simp] theorem completeParse_asyncActive (s : State) : (completeParse s).asyncActive = s.asyncActive := rfl
@[simp] theorem completeParse_img (s : State) : (completeParse s).img = s.img := rfl
@[simp] theorem completeParse_coef (s : State) :
    (completeParse s).coef = Six.ofFn fun i => Six.ofFn fun j => extractCoef s.cfg.numF s.img i j := rfl
@[simp] theorem completeParse_calCount (s : State) : (completeParse s).calCount = s.calCount := rfl
@[simp] theorem completeParse_calLast (s : State) : (completeParse s).calLast = s.calLast := rfl
@[simp] theorem completeParse_fs (s : State) :
    (completeParse s).fs = Six.ofFn fun i => extractFullScale s.img i := rfl
@[simp] theorem completeParse_seq (s : State) : (completeParse s).seq = .none := rfl
@[simp] theorem completeParse_probeN (s : State) : (completeParse s).probeN = s.probeN := rfl
@[simp] theorem completeParse_probeLast (s : State) : (completeParse s).probeLast = s.probeLast := rfl
@[simp] theorem completeParse_cfg (s : State) : (completeParse s).cfg = s.cfg := rfl
@[simp] theorem completeParse_input (s : State) : (completeParse s).input = s.input := rfl
@[simp] theorem completeParse_out (s : State) : (completeParse s).out = s.out ++ [.resp .ok []] := rfl

end Sys2Proof.Machine
end

