-- ==== Sys2Proof/Laws/Tables.lean ====
section
/-!
SUPPORT. What the six-fold tables and the image can do: reading an entry after a write, and the canonical form of the
image kept by every write.
-/

namespace Sys2Proof.Machine

/-! ### Six-fold tables -/

@[simp] theorem Six.get_ofFn {α : Type} (f : Axis → α) (a : Axis) : (Six.ofFn f).get a = f a := by
  cases a <;> rfl

@[simp] theorem Six.get_fill {α : Type} (x : α) (a : Axis) : (Six.fill x).get a = x := by
  cases a <;> rfl

@[simp] theorem Six.get_set_same {α : Type} (t : Six α) (a : Axis) (x : α) : (t.set a x).get a = x := by
  cases a <;> rfl

@[simp] theorem Six.get_set_other {α : Type} (t : Six α) {a b : Axis} (x : α) (h : b ≠ a) :
    (t.set a x).get b = t.get b := by
  cases a <;> cases b <;> first | rfl | exact absurd rfl h

theorem Six.ext_get {α : Type} {t u : Six α} (h : ∀ a, t.get a = u.get a) : t = u := by
  cases t
  cases u
  simp only [Six.mk.injEq]
  exact ⟨h .forceX, h .forceY, h .forceZ, h .momentX, h .momentY, h .momentZ⟩

@[simp] theorem Six.ofFn_get {α : Type} (t : Six α) : (Six.ofFn fun a => t.get a) = t := rfl

theorem Six.ofFn_const {α : Type} (x : α) : (Six.ofFn fun _ => x) = Six.fill x := rfl

@[simp] theorem Six.length_toList {α : Type} (t : Six α) : t.toList.length = 6 := rfl

/-! ### The image -/

@[simp] theorem Memory.read_nil (a : Nat) : Memory.read [] a = Memory.unlisted := rfl

theorem Memory.wf_nil : Memory.wf [] := by decide

/-- An address below every listed one reads as the unlisted byte. -/
theorem Memory.read_below {m : Memory} {a : Nat} (h : ∀ x ∈ m, a < x.1) : m.read a = Memory.unlisted := by
  induction m with
  | nil => rfl
  | cons x m ih =>
    have hx := h x List.mem_cons_self
    rw [Memory.read, if_neg (Nat.ne_of_lt hx)]
    exact ih fun y hy => h y (List.mem_cons_of_mem x hy)

/-- The canonical form of a list is that of its tail, with a head below the tail. -/
theorem Memory.wf_cons {x : Host.Cell} {m : Memory} :
    Memory.wf (x :: m) ↔
      (∀ y ∈ m, x.1 < y.1) ∧ x.1 < 256 ∧ x.2 ≠ Memory.unlisted ∧ Memory.wf m := by
  simp only [Memory.wf, List.pairwise_cons, List.forall_mem_cons]
  tauto

/-- A listed address after a write was listed before or is the one written. -/
theorem Memory.mem_write {m : Memory} {a : Nat} {v : Byte} {x : Host.Cell} (h : x ∈ m.write a v) :
    x ∈ m ∨ (x = (a, v) ∧ v ≠ Memory.unlisted) := by
  induction m with
  | nil =>
    rw [Memory.write] at h
    split at h
    · cases h
    · next hv => exact .inr ⟨List.mem_singleton.1 h, hv⟩
  | cons y m ih =>
    rw [Memory.write] at h
    split at h
    · split at h
      · exact .inl h
      · next hv =>
        rcases List.mem_cons.1 h with rfl | h
        · exact .inr ⟨rfl, hv⟩
        · exact .inl h
    · split at h
      · split at h
        · exact .inl (List.mem_cons_of_mem _ h)
        · next hv =>
          rcases List.mem_cons.1 h with rfl | h
          · exact .inr ⟨rfl, hv⟩
          · exact .inl (List.mem_cons_of_mem _ h)
      · rcases List.mem_cons.1 h with rfl | h
        · exact .inl List.mem_cons_self
        · rcases ih h with h | h
          · exact .inl (List.mem_cons_of_mem _ h)
          · exact .inr h

/-- Every write of an existing address keeps the canonical form. -/
theorem Memory.write_wf {m : Memory} {a : Nat} {v : Byte} (h : Memory.wf m) (ha : a < 256) :
    Memory.wf (m.write a v) := by
  induction m with
  | nil =>
    rw [Memory.write]
    split
    · exact h
    · next hv => exact Memory.wf_cons.2 ⟨by simp, ha, hv, Memory.wf_nil⟩
  | cons y m ih =>
    obtain ⟨hlt, hy, hyv, hm⟩ := Memory.wf_cons.1 h
    rw [Memory.write]
    split
    · next hay =>
      split
      · exact h
      · next hv =>
        refine Memory.wf_cons.2 ⟨fun x hx => ?_, ha, hv, h⟩
        rcases List.mem_cons.1 hx with rfl | hx
        · exact hay
        · exact Nat.lt_trans hay (hlt x hx)
    · next hay =>
      split
      · next heq =>
        split
        · exact hm
        · next hv => exact Memory.wf_cons.2 ⟨fun x hx => heq ▸ hlt x hx, ha, hv, hm⟩
      · next hne =>
        refine Memory.wf_cons.2 ⟨fun x hx => ?_, hy, hyv, ih hm⟩
        rcases Memory.mem_write hx with hx | ⟨rfl, _⟩
        · exact hlt x hx
        · exact Nat.lt_of_le_of_ne (Nat.not_lt.1 hay) fun e => hne e.symm

/-- What a byte reads as after a write: the value written at its address, and as before at every other. -/
theorem Memory.read_write {m : Memory} {a : Nat} {v : Byte} (h : Memory.wf m) (x : Nat) :
    (m.write a v).read x = if x = a then v else m.read x := by
  induction m with
  | nil =>
    rw [Memory.write]
    split
    · next hv => split <;> simp [hv]
    · simp [Memory.read]
  | cons y m ih =>
    obtain ⟨hlt, _, _, hm⟩ := Memory.wf_cons.1 h
    rw [Memory.write]
    split
    · next hay =>
      have below : ∀ z ∈ y :: m, a < z.1 := by
        intro z hz
        rcases List.mem_cons.1 hz with rfl | hz
        · exact hay
        · exact Nat.lt_trans hay (hlt z hz)
      split
      · next hv =>
        split
        · next hx => rw [hx, hv, Memory.read_below below]
        · rfl
      · rfl
    · next hay =>
      split
      · next heq =>
        split
        · next hv =>
          by_cases hx : x = a
          · rw [if_pos hx, hx, hv]
            exact Memory.read_below fun z hz => heq ▸ hlt z hz
          · rw [if_neg hx, Memory.read, if_neg (heq ▸ hx)]
        · by_cases hx : x = a
          · simp [Memory.read, hx]
          · simp [Memory.read, hx, heq ▸ hx]
      · next hne =>
        rw [Memory.read, Memory.read, ih hm]
        by_cases hx : x = a
        · rw [if_pos hx, if_neg (fun e => hne (hx.symm.trans e)), if_pos hx]
        · simp [hx]

@[simp] theorem Memory.read_write_same {m : Memory} {a : Nat} {v : Byte} (h : Memory.wf m) :
    (m.write a v).read a = v := by
  rw [Memory.read_write h, if_pos rfl]

@[simp] theorem Memory.read_write_other {m : Memory} {a x : Nat} {v : Byte} (h : Memory.wf m) (hx : x ≠ a) :
    (m.write a v).read x = m.read x := by
  rw [Memory.read_write h, if_neg hx]

end Sys2Proof.Machine
end

