-- ==== Sys2Proof/Laws/Ops.lean ====
section
/-!
SUPPORT. What each shared operation can do, said once: the command port and its guards, the stop sequence, the loop top,
the two contexts of a frame, the parser's byte, the Tick and the probe. Proofs cite these and do not unfold the
operations.
-/

namespace Sys2Proof.Machine

/-! ### The command port (R260, R261) -/

theorem onPort_idle {f : State → State} {s : State} (h : s.seq = .none) : onPort f s = f s := if_pos h

theorem onPort_busy {f : State → State} {s : State} (h : s.seq ≠ .none) : onPort f s = s := if_neg h

theorem guarded_busy {f : State → State} {s : State} (h : s.seq ≠ .none) : guarded f s = s := onPort_busy h

theorem guarded_uninitialized {f : State → State} {s : State} (h : s.seq = .none)
    (hc : s.ctl = .uninitialized) : guarded f s = refuse .notInitialized s := by
  simp [guarded, onPort_idle h, hc]

theorem guarded_ready {f : State → State} {s : State} (h : s.seq = .none) (hc : s.ctl = .ready) :
    guarded f s = f s := by
  simp [guarded, onPort_idle h, hc]

/-- A guarded command is ignored at a busy port, refused, or run. -/
theorem guarded_cases (f : State → State) (s : State) :
    (s.seq ≠ .none ∧ guarded f s = s) ∨
    (s.seq = .none ∧ s.ctl = .uninitialized ∧ guarded f s = refuse .notInitialized s) ∨
    (s.seq = .none ∧ s.ctl = .ready ∧ guarded f s = f s) := by
  by_cases h : s.seq = .none
  · cases hc : s.ctl
    · exact .inr (.inl ⟨h, rfl, guarded_uninitialized h hc⟩)
    · exact .inr (.inr ⟨h, rfl, guarded_ready h hc⟩)
  · exact .inl ⟨h, guarded_busy h⟩

/-- An unguarded command is ignored at a busy port or run. -/
theorem onPort_cases (f : State → State) (s : State) :
    (s.seq ≠ .none ∧ onPort f s = s) ∨ (s.seq = .none ∧ onPort f s = f s) := by
  by_cases h : s.seq = .none
  · exact .inr ⟨h, onPort_idle h⟩
  · exact .inl ⟨h, onPort_busy h⟩

/-! ### The stop sequence (R272) -/

theorem running_eq_false {s : State} :
    running s = false ↔ s.decActive = false ∧ s.asyncActive = false := by
  simp [running]

theorem stopCheck_waiting {s : State} (h : running s = true) : stopCheck s = s := by
  unfold stopCheck
  split <;> simp [h]

theorem stopCheck_exited {s : State} {after : AfterStop} (hs : s.seq = .stopping after)
    (h : running s = false) : stopCheck s = stopComplete after s := by
  simp [stopCheck, hs, h]

theorem stopCheck_other {s : State} (h : ∀ after, s.seq ≠ .stopping after) : stopCheck s = s := by
  unfold stopCheck
  split
  · next after hs => exact absurd hs (h after)
  all_goals rfl

/-- The check waits, or a stop sequence whose agents have exited completes. -/
theorem stopCheck_cases (s : State) :
    stopCheck s = s ∨
    ∃ after, s.seq = .stopping after ∧ running s = false ∧ stopCheck s = stopComplete after s := by
  by_cases hr : running s = true
  · exact .inl (stopCheck_waiting hr)
  · have hr : running s = false := by simpa using hr
    by_cases h : ∃ after, s.seq = .stopping after
    · obtain ⟨after, h⟩ := h
      exact .inr ⟨after, h, hr, stopCheck_exited h hr⟩
    · exact .inl (stopCheck_other fun after hs => h ⟨after, hs⟩)

theorem stopBegin_running {after : AfterStop} {s : State} (h : running s = true) :
    stopBegin after s = { s with seq := .stopping after, stopReq := true } := by
  have : stopBegin after s = { requestStop s with seq := .stopping after } := stopCheck_waiting h
  simp [this, requestStop, h]

theorem stopBegin_idle {after : AfterStop} {s : State} (h : running s = false) :
    stopBegin after s = stopComplete after { s with seq := .stopping after } := by
  have : stopBegin after s = stopComplete after { requestStop s with seq := .stopping after } :=
    stopCheck_exited rfl h
  simp [this, requestStop, h]

/-- Beginning a stop sequence waits for a running agent or completes at once. -/
theorem stopBegin_cases (after : AfterStop) (s : State) :
    (running s = true ∧ stopBegin after s = { s with seq := .stopping after, stopReq := true }) ∨
    (running s = false ∧ stopBegin after s = stopComplete after { s with seq := .stopping after }) := by
  cases h : running s
  · exact .inr ⟨rfl, stopBegin_idle h⟩
  · exact .inl ⟨rfl, stopBegin_running h⟩

/-- A START restarts through the stop sequence or starts at once (R265, R266). -/
theorem restart_cases (after : AfterStop) (start : State → State) (s : State) :
    (running s = true ∧
      restart after start s = { s with seq := .stopping after, stopReq := true }) ∨
    (running s = false ∧ restart after start s = start s) := by
  cases h : running s
  · exact .inr ⟨rfl, by simp [restart, h]⟩
  · exact .inl ⟨rfl, by simp [restart, h, stopBegin_running h]⟩

/-! ### The loop top (R221) -/

theorem loopTop_goesOn {s : State} (h : observesStop s = false) :
    loopTop s = { s with alphaL := s.alpha } := by
  simp [loopTop, h]

theorem loopTop_exits {s : State} (h : observesStop s = true) :
    loopTop s = stopCheck { s with alphaL := s.alpha, decActive := false } := by
  simp [loopTop, h]

theorem observesStop_noRequest {s : State} (h : s.stopReq = false) : observesStop s = false := by
  simp [observesStop, h]

/-- The loop goes on, exits and waits for the async agent (or for nothing, where no stop sequence is under way), or
exits and completes the stop sequence. -/
theorem loopTop_cases (s : State) :
    (observesStop s = false ∧ loopTop s = { s with alphaL := s.alpha }) ∨
    (observesStop s = true ∧ loopTop s = { s with alphaL := s.alpha, decActive := false } ∧
      (s.asyncActive = true ∨ ∀ after, s.seq ≠ .stopping after)) ∨
    (observesStop s = true ∧ s.asyncActive = false ∧ ∃ after, s.seq = .stopping after ∧
      loopTop s = stopComplete after { s with alphaL := s.alpha, decActive := false }) := by
  cases h : observesStop s
  · exact .inl ⟨rfl, loopTop_goesOn h⟩
  · refine .inr ?_
    rw [loopTop_exits h]
    by_cases ha : s.asyncActive = true
    · exact .inl ⟨rfl, stopCheck_waiting (by simp [running, ha]), .inl ha⟩
    · have ha : s.asyncActive = false := by simpa using ha
      by_cases hs : ∃ after, s.seq = .stopping after
      · obtain ⟨after, hs⟩ := hs
        exact .inr ⟨rfl, ha, after, hs, stopCheck_exited hs (by simp [running, ha])⟩
      · exact .inl ⟨rfl, stopCheck_other fun after e => hs ⟨after, e⟩,
          .inr fun after e => hs ⟨after, e⟩⟩

theorem loopTop_noRequest {s : State} (h : s.stopReq = false) : loopTop s = { s with alphaL := s.alpha } :=
  loopTop_goesOn (observesStop_noRequest h)

/-! ### The revolution (R233 to R238) -/

theorem completeRevolution_publish {s : State} (h : s.zeroPending = false) :
    completeRevolution s =
      { s with
        dec := (decoupleAndFilter s).dec
        fil := (decoupleAndFilter s).fil
        shared := Six.ofFn fun a => publishAxis ((decoupleAndFilter s).fil.get a) (s.off.get a)
        counter := s.counter + 1
        expect := .forceX } := by
  have hz : (decoupleAndFilter s).zeroPending ≠ true := by
    rw [show (decoupleAndFilter s).zeroPending = false from h]; decide
  unfold completeRevolution publishOrZero
  rw [if_neg hz]
  rfl

theorem completeRevolution_zero {s : State} (h : s.zeroPending = true) :
    completeRevolution s =
      { s with
        dec := (decoupleAndFilter s).dec
        fil := (decoupleAndFilter s).dec
        off := (decoupleAndFilter s).dec
        shared := Six.fill 0
        zeroPending := false
        counter := s.counter + 1
        expect := .forceX } := by
  have hz : (decoupleAndFilter s).zeroPending = true := h
  unfold completeRevolution publishOrZero
  rw [if_pos hz]
  rfl

/-- A completed revolution writes the datapath registers, drops a serviced request, counts, and expects FORCE_X. -/
theorem completeRevolution_keeps (s : State) :
    ∃ dec fil off shared, completeRevolution s =
      { s with
        dec := dec
        fil := fil
        off := off
        shared := shared
        zeroPending := false
        counter := s.counter + 1
        expect := .forceX } := by
  cases h : s.zeroPending
  · exact ⟨_, _, s.off, _, by rw [completeRevolution_publish h, ← h]⟩
  · exact ⟨_, _, _, _, completeRevolution_zero h⟩

/-! ### The contexts of a frame (R137, R220) -/

theorem inContext_parse {parser loop : State → State} {s : State} (h : s.seq = .parse) :
    inContext parser loop s = parser s := if_pos h

theorem inContext_loop {parser loop : State → State} {s : State} (h : s.seq ≠ .parse)
    (hd : s.decActive = true) : inContext parser loop s = loopTop (loop s) := by
  simp [inContext, h, hd]

theorem inContext_none {parser loop : State → State} {s : State} (h : s.seq ≠ .parse)
    (hd : s.decActive = false) : inContext parser loop s = s := by
  simp [inContext, h, hd]

theorem inContext_cases (parser loop : State → State) (s : State) :
    (s.seq = .parse ∧ inContext parser loop s = parser s) ∨
    (s.seq ≠ .parse ∧ s.decActive = true ∧ inContext parser loop s = loopTop (loop s)) ∨
    (s.seq ≠ .parse ∧ s.decActive = false ∧ inContext parser loop s = s) := by
  by_cases h : s.seq = .parse
  · exact .inl ⟨h, inContext_parse h⟩
  · cases hd : s.decActive
    · exact .inr (.inr ⟨h, rfl, inContext_none h hd⟩)
    · exact .inr (.inl ⟨h, rfl, inContext_loop h hd⟩)

theorem loopAxis_inSequence {a b : Axis} {p : Word16} {s : State} (h : s.expect = a) :
    loopAxis a b p s = { storeRaw a p s with expect := b } := if_pos h

theorem loopAxis_break {a b : Axis} {p : Word16} {s : State} (h : s.expect ≠ a) :
    loopAxis a b p s = sequenceBreak s := if_neg h

theorem loopMomentZ_inSequence {p : Word16} {s : State} (h : s.expect = .momentZ) :
    loopMomentZ p s = completeRevolution (storeRaw .momentZ p s) := if_pos h

theorem loopMomentZ_break {p : Word16} {s : State} (h : s.expect ≠ .momentZ) :
    loopMomentZ p s = sequenceBreak s := if_neg h

/-- In loop context an axis frame advances the sequence or breaks it. -/
theorem loopAxis_cases (a b : Axis) (p : Word16) (s : State) :
    (s.expect = a ∧ loopAxis a b p s = { storeRaw a p s with expect := b }) ∨
    (s.expect ≠ a ∧ loopAxis a b p s = sequenceBreak s) := by
  by_cases h : s.expect = a
  · exact .inl ⟨h, loopAxis_inSequence h⟩
  · exact .inr ⟨h, loopAxis_break h⟩

/-- In loop context a MOMENT_Z frame completes the revolution or breaks the sequence. -/
theorem loopMomentZ_cases (p : Word16) (s : State) :
    (s.expect = .momentZ ∧ loopMomentZ p s = completeRevolution (storeRaw .momentZ p s)) ∨
    (s.expect ≠ .momentZ ∧ loopMomentZ p s = sequenceBreak s) := by
  by_cases h : s.expect = .momentZ
  · exact .inl ⟨h, loopMomentZ_inSequence h⟩
  · exact .inr ⟨h, loopMomentZ_break h⟩

/-! ### The parser's byte (R202 to R204) -/

/-- The byte is dropped, stored, or stored as the last one. -/
theorem parseByte_cases (a v : Byte) (s : State) :
    (acceptsByte a s = false ∧ parseByte a v s = s) ∨
    (acceptsByte a s = true ∧ s.calCount + 1 ≠ 256 ∧ parseByte a v s = storeByte a v s) ∨
    (acceptsByte a s = true ∧ s.calCount + 1 = 256 ∧
      parseByte a v s = completeParse (storeByte a v s)) := by
  unfold parseByte
  cases h : acceptsByte a s
  · exact .inl ⟨rfl, rfl⟩
  · refine .inr ?_
    by_cases hc : s.calCount + 1 = 256
    · exact .inr ⟨rfl, hc, by simp [hc]⟩
    · exact .inl ⟨rfl, hc, by simp [hc]⟩

/-! ### The Tick (R274) -/

theorem takeTick_cases (s : State) :
    (s.asyncActive = false ∧ takeTick s = s) ∨
    (s.asyncActive = true ∧ s.stopReq = true ∧ takeTick s = stopCheck { s with asyncActive := false }) ∨
    (s.asyncActive = true ∧ s.stopReq = false ∧ takeTick s = emitPush { s with periodL := s.period }) := by
  unfold takeTick
  cases s.asyncActive <;> cases s.stopReq <;> simp

/-! ### The probe (R143) -/

theorem probeSample_other {c : Bool} {s : State} (h : s.seq ≠ .probe) : probeSample c s = s := if_neg h

theorem probeSample_cases (c : Bool) (s : State) :
    (s.seq ≠ .probe ∧ probeSample c s = s) ∨
    (s.seq = .probe ∧ 1 < s.probeN + 1 ∧ c ≠ s.probeLast ∧ probeSample c s =
      { s with seq := .none, probeN := s.probeN + 1, out := s.out ++ [.resp .ok [1]] }) ∨
    (s.seq = .probe ∧ ¬(1 < s.probeN + 1 ∧ c ≠ s.probeLast) ∧ s.probeN + 1 = s.cfg.nProbe ∧
      probeSample c s =
        { s with seq := .none, probeN := s.probeN + 1, probeLast := c, out := s.out ++ [.resp .ok [0]] }) ∨
    (s.seq = .probe ∧ ¬(1 < s.probeN + 1 ∧ c ≠ s.probeLast) ∧ s.probeN + 1 ≠ s.cfg.nProbe ∧
      probeSample c s = { s with probeN := s.probeN + 1, probeLast := c }) := by
  by_cases h : s.seq = .probe
  · refine .inr ?_
    by_cases h1 : 1 < s.probeN + 1 ∧ c ≠ s.probeLast
    · exact .inl ⟨h, h1.1, h1.2, by simp only [probeSample, if_pos h, if_pos h1]; rfl⟩
    · refine .inr ?_
      by_cases h2 : s.probeN + 1 = s.cfg.nProbe
      · exact .inl ⟨h, h1, h2, by simp only [probeSample, if_pos h, if_neg h1, if_pos h2]; rfl⟩
      · exact .inr ⟨h, h1, h2, by simp only [probeSample, if_pos h, if_neg h1, if_neg h2]⟩
  · exact .inl ⟨h, probeSample_other h⟩

/-- The probe leaves every decoder register as it is (R143). -/
theorem probeSample_keeps (c : Bool) (s : State) :
    ∃ q n l o, probeSample c s = { s with seq := q, probeN := n, probeLast := l, out := o } := by
  rcases probeSample_cases c s with ⟨_, e⟩ | ⟨_, _, _, e⟩ | ⟨_, _, _, e⟩ | ⟨_, _, _, e⟩ <;>
    exact ⟨_, _, _, _, e⟩

/-- The probe does not change whether a consumer is active (R131, R143). -/
@[simp] theorem consumerActive_probeSample (c : Bool) (s : State) :
    consumerActive (probeSample c s) = consumerActive s := by
  rcases probeSample_cases c s with ⟨_, e⟩ | ⟨h, _, _, e⟩ | ⟨h, _, _, e⟩ | ⟨h, _, _, e⟩
  · rw [e]
  all_goals
    rw [e]
    simp [consumerActive, h]

end Sys2Proof.Machine
end

