-- ==== Sys2Proof/Laws/Exec.lean ====
section
/-!
SUPPORT. What exec and step can do: each meaning by name, the line sample's cases, a completed frame as the instruction it
decodes to, and that every instruction and every step has a next state.
-/

namespace Sys2Proof.Machine

/-! ### Frames -/

/-- What a frame instruction does in loop context before the loop top, and in parse context. -/
theorem exec_voltage (p : Word16) (s : State) :
    exec (.voltage p) s = .next (inContext id sequenceBreak s) := rfl

theorem exec_forceX (p : Word16) (s : State) :
    exec (.forceX p) s = .next (inContext id (loopAxis .forceX .forceY p) s) := rfl

theorem exec_forceY (p : Word16) (s : State) :
    exec (.forceY p) s = .next (inContext id (loopAxis .forceY .forceZ p) s) := rfl

theorem exec_forceZ (p : Word16) (s : State) :
    exec (.forceZ p) s = .next (inContext id (loopAxis .forceZ .momentX p) s) := rfl

theorem exec_momentX (p : Word16) (s : State) :
    exec (.momentX p) s = .next (inContext id (loopAxis .momentX .momentY p) s) := rfl

theorem exec_momentY (p : Word16) (s : State) :
    exec (.momentY p) s = .next (inContext id (loopAxis .momentY .momentZ p) s) := rfl

theorem exec_momentZ (p : Word16) (s : State) :
    exec (.momentZ p) s = .next (inContext id (loopMomentZ p) s) := rfl

theorem exec_calibration (a v : Byte) (s : State) :
    exec (.calibration a v) s = .next (inContext (parseByte a v) sequenceBreak s) := rfl

theorem exec_reserved (ch : BitVec 4) (p : Word16) (s : State) :
    exec (.reserved ch p) s = .next (inContext id sequenceBreak s) := rfl

/-- A completed frame runs the instruction it decodes to (R137). -/
theorem handleFrame_eq_exec (f : Frame) (s : State) : handleFrame f s = exec (decodeFrame f) s := by
  unfold handleFrame
  generalize hd : decodeFrame f = i
  unfold decodeFrame at hd
  split at hd <;> subst hd <;> rfl

/-! ### Every instruction has a next state (R300) -/

theorem handleFrame_next (f : Frame) (s : State) : ∃ t, handleFrame f s = .next t := by
  unfold handleFrame
  split <;> exact ⟨_, rfl⟩

theorem captureBit_next (d : Bool) (s : State) : ∃ t, captureBit d s = .next t := by
  unfold captureBit
  split
  · exact handleFrame_next _ _
  · exact ⟨_, rfl⟩

theorem decoderSample_next (c d : Bool) (s : State) : ∃ t, decoderSample c d s = .next t := by
  unfold decoderSample
  split
  iterate 4 exact ⟨_, rfl⟩
  split
  · exact captureBit_next _ _
  · exact ⟨_, rfl⟩

theorem execLine_next (c d : Bool) (s : State) : ∃ t, execLine c d s = .next t := by
  unfold execLine
  split
  · exact decoderSample_next _ _ _
  · exact ⟨_, rfl⟩

theorem exec_next (i : Instr) (s : State) : ∃ t, exec i s = .next t := by
  cases i
  case line c d => exact execLine_next c d s
  all_goals exact ⟨_, rfl⟩

theorem runPacket_next (p : Packet) (s : State) : ∃ t, runPacket p s = .next t := by
  unfold runPacket
  split
  · exact exec_next _ _
  · exact ⟨_, rfl⟩

theorem runEvent_next (e : Event) (s : State) : ∃ t, runEvent e s = .next t := by
  cases e with
  | line w => exact runPacket_next (.line w) s
  | command w => exact runPacket_next (.command w) s
  | tick => exact ⟨_, rfl⟩
  | reset => exact ⟨_, rfl⟩

theorem step_next (s : State) : ∃ t, step s = .next t := by
  unfold step runNext
  split
  · exact ⟨_, rfl⟩
  · exact runEvent_next _ _

/-! ### The line sample (R130 to R143) -/

theorem execLine_noConsumer {c d : Bool} {s : State} (h : consumerActive s = false) :
    execLine c d s = .next (probeSample c s) := by
  simp [execLine, h]

theorem execLine_consumer {c d : Bool} {s : State} (h : consumerActive s = true) :
    execLine c d s = decoderSample c d (probeSample c s) := by
  simp [execLine, h]

/-- Capturing a bit sets that bit of the accumulator and no other (R136). -/
theorem getLsbD_setFrameBit (a : Frame) (i : Fin 20) (d : Bool) (k : Nat) (hk : k < 20) :
    (setFrameBit a i d).getLsbD k = if k = i.val then d else a.getLsbD k := by
  unfold setFrameBit
  by_cases h : k = i.val
  · subst h
    cases d <;> simp
  · have h' : ¬ i.val = k := fun e => h e.symm
    cases d
    · simp [h, hk]
    · simp [h, h']

/-- The decoder's transition moves the decoder's own registers, or completes a frame and runs it. -/
theorem decoderSample_cases (c d : Bool) (s : State) :
    (∃ ph b a, decoderSample c d s = .next { s with phase := ph, bit := b, acc := a }) ∨
    (s.phase = .rise ∧ s.bit = 0 ∧ c = true ∧
      decoderSample c d s = exec (decodeFrame (setFrameBit s.acc 0 d))
        { s with acc := setFrameBit s.acc 0 d, phase := .idle }) := by
  unfold decoderSample
  split
  · refine .inl ?_
    split <;> exact ⟨_, _, _, rfl⟩
  · refine .inl ?_
    split <;> first | exact ⟨_, _, _, rfl⟩ | (split <;> exact ⟨_, _, _, rfl⟩)
  · refine .inl ?_
    split <;> first | exact ⟨_, _, _, rfl⟩ | (split <;> exact ⟨_, _, _, rfl⟩)
  · refine .inl ?_
    split <;> exact ⟨_, _, _, rfl⟩
  · next h =>
    split
    · next hc =>
      unfold captureBit
      split
      · next hb => exact .inr ⟨h, hb, hc, by rw [hb, handleFrame_eq_exec]⟩
      · exact .inl ⟨_, _, _, rfl⟩
    · exact .inl ⟨_, _, _, rfl⟩

/-- A line sample, after the probe's look at it, changes decoder registers only, or completes a frame and runs it. -/
theorem execLine_cases (c d : Bool) (s : State) :
    (∃ ph b a, execLine c d s = .next { probeSample c s with phase := ph, bit := b, acc := a }) ∨
    (consumerActive s = true ∧ s.phase = .rise ∧ s.bit = 0 ∧ c = true ∧
      execLine c d s = exec (decodeFrame (setFrameBit s.acc 0 d))
        { probeSample c s with acc := setFrameBit s.acc 0 d, phase := .idle }) := by
  cases h : consumerActive s
  · exact .inl ⟨_, _, _, execLine_noConsumer h⟩
  · rw [execLine_consumer h]
    obtain ⟨q, n, l, o, e⟩ := probeSample_keeps c s
    rcases decoderSample_cases c d (probeSample c s) with h' | ⟨h1, h2, h3, h4⟩
    · exact .inl h'
    · rw [e] at h1 h2
      exact .inr ⟨rfl, h1, h2, h3, by rw [h4, e]⟩

/-! ### The step (R6) -/

theorem step_idle {s : State} (h : s.input = []) : step s = .next s := by
  simp [step, runNext, h]

theorem step_event {s : State} {e : Event} {rest : List Event} (h : s.input = e :: rest) :
    step s = runEvent e { s with input := rest } := by
  simp [step, runNext, h]

/-- Bits that the decoder refuses are a command word whose op names no command (R106). -/
theorem decode_error {p : Packet} {e : DecodeError} (h : decode p = .error e) :
    ∃ w, p = .command w ∧ e = .illegalCommand w.op := by
  cases p with
  | line w => cases h
  | frame f => cases h
  | command w =>
    refine ⟨w, rfl, ?_⟩
    simp only [decode, decodeCommand] at h
    split at h <;> first | cases h; rfl | cases h

/-- One step takes no event, or the event at the head of the queue. -/
theorem step_cases {s t : State} (h : step s = .next t) :
    (s.input = [] ∧ t = s) ∨
    ∃ e rest, s.input = e :: rest ∧ runEvent e { s with input := rest } = .next t := by
  cases hi : s.input with
  | nil =>
    rw [step_idle hi] at h
    cases h
    exact .inl ⟨rfl, rfl⟩
  | cons e rest =>
    rw [step_event hi] at h
    exact .inr ⟨e, rest, rfl, h⟩

end Sys2Proof.Machine
end

