-- ==== Sys2Proof/Laws/PerInstr.lean ====
section
/-!
SUPPORT. One fact per instruction: its encoding lies in its row of spec/opcode_table.json, that is, the bits under the
row's mask are the row's match.
-/

namespace Sys2Proof.Laws

/-- The width of a packet's format in bits. -/
def packetWidth : Packet → Nat
  | .line _ => 2
  | .frame _ => 20
  | .command _ => 40

/-- The bits of a packet as one number, numbered as the opcode table numbers them. -/
def packetBits : Packet → Nat
  | .line w => w.toNat
  | .frame w => w.toNat
  | .command w => w.toNat

/-- A row of the opcode table: the width of its encoding, its mask and its match. -/
def tableRow : Instr → Nat × Nat × Nat
  | .voltage _ => (20, 0xF0000, 0x00000)
  | .forceX _ => (20, 0xF0000, 0x10000)
  | .forceY _ => (20, 0xF0000, 0x20000)
  | .forceZ _ => (20, 0xF0000, 0x30000)
  | .momentX _ => (20, 0xF0000, 0x40000)
  | .momentY _ => (20, 0xF0000, 0x50000)
  | .momentZ _ => (20, 0xF0000, 0x60000)
  | .calibration _ _ => (20, 0xF0000, 0x70000)
  | .reserved _ _ => (20, 0x80000, 0x80000)
  | .initializeCmd _ => (40, 0xFF00000000, 0x0100000000)
  | .setFilter _ _ => (40, 0xFF00000000, 0x0200000000)
  | .calibrate _ => (40, 0xFF00000000, 0x0300000000)
  | .startSync _ => (40, 0xFF00000000, 0x0400000000)
  | .startAsync _ => (40, 0xFF00000000, 0x0500000000)
  | .stop _ => (40, 0xFF00000000, 0x0600000000)
  | .acquire _ => (40, 0xFF00000000, 0x0700000000)
  | .getFullScales _ => (40, 0xFF00000000, 0x0800000000)
  | .getState _ => (40, 0xFF00000000, 0x0900000000)
  | .isConnected _ => (40, 0xFF00000000, 0x0A00000000)
  | .line _ _ => (2, 0x0, 0x0)

/-- A well-formed instruction is encoded at its row's width, with the row's match under the row's mask. -/
def EncodedForm.Statement (i : Instr) : Prop :=
  WellFormed i →
    packetWidth (encode i) = (tableRow i).1 ∧
    packetBits (encode i) &&& (tableRow i).2.1 = (tableRow i).2.2

/-- A mask over the upper part of a concatenation sees the upper part alone. -/
theorem append_mask {n m : Nat} (x : BitVec n) (y : BitVec m) (k : Nat) :
    (x ++ y).toNat &&& (k <<< m) = (x.toNat &&& k) <<< m := by
  apply Nat.eq_of_testBit_eq
  intro i
  rw [BitVec.toNat_append]
  simp only [Nat.testBit_and, Nat.testBit_or, Nat.testBit_shiftLeft]
  by_cases h : m ≤ i
  · have hy : y.toNat.testBit i = false :=
      Nat.testBit_lt_two_pow (Nat.lt_of_lt_of_le y.isLt (Nat.pow_le_pow_right (by decide) h))
    simp [h, hy]
  · simp [h]

theorem frame_form (ch : BitVec 4) (p : Word16) :
    (frameOf ch p).toNat &&& 0xF0000 = (ch.toNat &&& 15) <<< 16 := append_mask ch p 15

theorem command_form (op : Byte) (arg : Word32) :
    (commandOf op arg).toNat &&& 0xFF00000000 = (op.toNat &&& 255) <<< 32 := append_mask op arg 255

theorem reserved_form (ch : BitVec 4) (p : Word16) (h : ch.getLsbD 3 = true) :
    (frameOf ch p).toNat &&& 0x80000 = 0x80000 := by
  have hc : ch.toNat &&& 8 = 8 := by revert ch; decide
  exact (append_mask ch p 8).trans (by rw [hc]; rfl)

theorem EncodedForm.voltage (p : Word16) : EncodedForm.Statement (.voltage p) :=
  fun _ => ⟨rfl, frame_form 0 p⟩

theorem EncodedForm.forceX (p : Word16) : EncodedForm.Statement (.forceX p) :=
  fun _ => ⟨rfl, frame_form 1 p⟩

theorem EncodedForm.forceY (p : Word16) : EncodedForm.Statement (.forceY p) :=
  fun _ => ⟨rfl, frame_form 2 p⟩

theorem EncodedForm.forceZ (p : Word16) : EncodedForm.Statement (.forceZ p) :=
  fun _ => ⟨rfl, frame_form 3 p⟩

theorem EncodedForm.momentX (p : Word16) : EncodedForm.Statement (.momentX p) :=
  fun _ => ⟨rfl, frame_form 4 p⟩

theorem EncodedForm.momentY (p : Word16) : EncodedForm.Statement (.momentY p) :=
  fun _ => ⟨rfl, frame_form 5 p⟩

theorem EncodedForm.momentZ (p : Word16) : EncodedForm.Statement (.momentZ p) :=
  fun _ => ⟨rfl, frame_form 6 p⟩

theorem EncodedForm.calibration (a v : Byte) : EncodedForm.Statement (.calibration a v) :=
  fun _ => ⟨rfl, frame_form 7 (a ++ v)⟩

theorem EncodedForm.reserved (ch : BitVec 4) (p : Word16) : EncodedForm.Statement (.reserved ch p) :=
  fun h => ⟨rfl, reserved_form ch p h⟩

theorem EncodedForm.initializeCmd (a : Word32) : EncodedForm.Statement (.initializeCmd a) :=
  fun _ => ⟨rfl, command_form 1 a⟩

theorem EncodedForm.setFilter (u c : Word16) : EncodedForm.Statement (.setFilter u c) :=
  fun _ => ⟨rfl, command_form 2 (u ++ c)⟩

theorem EncodedForm.calibrate (a : Word32) : EncodedForm.Statement (.calibrate a) :=
  fun _ => ⟨rfl, command_form 3 a⟩

theorem EncodedForm.startSync (a : Word32) : EncodedForm.Statement (.startSync a) :=
  fun _ => ⟨rfl, command_form 4 a⟩

theorem EncodedForm.startAsync (p : Word32) : EncodedForm.Statement (.startAsync p) :=
  fun _ => ⟨rfl, command_form 5 p⟩

theorem EncodedForm.stop (a : Word32) : EncodedForm.Statement (.stop a) :=
  fun _ => ⟨rfl, command_form 6 a⟩

theorem EncodedForm.acquire (a : Word32) : EncodedForm.Statement (.acquire a) :=
  fun _ => ⟨rfl, command_form 7 a⟩

theorem EncodedForm.getFullScales (a : Word32) : EncodedForm.Statement (.getFullScales a) :=
  fun _ => ⟨rfl, command_form 8 a⟩

theorem EncodedForm.getState (a : Word32) : EncodedForm.Statement (.getState a) :=
  fun _ => ⟨rfl, command_form 9 a⟩

theorem EncodedForm.isConnected (a : Word32) : EncodedForm.Statement (.isConnected a) :=
  fun _ => ⟨rfl, command_form 10 a⟩

theorem EncodedForm.line (c d : Bool) : EncodedForm.Statement (.line c d) :=
  fun _ => ⟨rfl, Nat.and_zero _⟩

end Sys2Proof.Laws
end

