-- ==== Sys2Proof/Tests/Slice0.lean ====
section
/-!
SUPPORT. The model's own tests. The expected values are those of spec 95_test_vectors.md, whose vector each docstring
names, or are worked out by hand from the rule it names. After them, for every statement of Obligations with hypotheses, a
`witness_…` theorem with a state and operands that meet them, clause by clause.
-/

namespace Sys2Proof.Tests

open Sys2Proof Sys2Proof.Machine

/-! ## The states of the tests -/

/-- The state an answer holds. -/
def nextOf : Result → Option State
  | .next t => some t
  | .fault _ => none
  | .refused _ => none

/-- What a test looks at in the next state. -/
def seen {α : Type} (look : State → α) (r : Result) : Option α := (nextOf r).map look

/-- After Reset, with the parameters of 95_test_vectors.md. -/
def fresh : State := { State.reset with cfg := ⟨31, 8000, 4, .frame⟩ }

/-- The coefficient table of program P2. -/
def matrixP2 : Six (Six Number) :=
  ⟨⟨0x40000000, 0, 0, 0, 0, 0⟩, ⟨0xD0000000, 0x40000000, 0, 0, 0, 0⟩, ⟨0, 0, 0x40000000, 0, 0, 0⟩,
    ⟨0, 0, 0, 0x40000000, 0, 0⟩, ⟨0, 0, 0, 0, 0x40000000, 0⟩, ⟨0, 0, 0, 0, 0, 0x40000000⟩⟩

/-- READY with the tables of program P2, nothing running. -/
def ready : State :=
  { fresh with
    ctl := .ready
    coef := matrixP2
    fs := ⟨0x0064, 0x00C8, 0x012C, 0x000A, 0xFFF6, 0x8000⟩ }

/-- The decode loop running, `a` expected. -/
def looping (a : Axis) : State := { ready with decActive := true, mode := .sync, expect := a }

/-- Both agents running. -/
def pushing : State :=
  { looping .forceX with asyncActive := true, mode := .async, period := 500, periodL := 500 }

/-- A parse in progress, `n` bytes accepted, the last at address `a`. -/
def parsing (n : Nat) (a : Byte) : State := { fresh with seq := .parse, calCount := n, calLast := a }

/-- The probe in progress with `n` samples taken, the last with clock level `c`. -/
def probing (n : Nat) (c : Bool) : State := { fresh with seq := .probe, probeN := n, probeLast := c }

/-- A stop sequence waiting. -/
def waiting (after : AfterStop) (s : State) : State := { s with seq := .stopping after, stopReq := true }

/-- The state with a sequence of events arriving. -/
def withEvents (es : List Event) (s : State) : State := { s with input := es }

/-! ## Well-formedness -/

/-- R91, R92: a channel below 8 is no RESERVED_8_15 frame, up to the last one; every channel from 8 on is. -/
theorem test_wellFormed :
    ¬ WellFormed (.reserved 0 0) ∧ ¬ WellFormed (.reserved 7 0xFFFF) ∧ WellFormed (.reserved 8 0) ∧
    WellFormed (.reserved 15 0xFFFF) := by decide

/-! ## Decoding: every row's encoding of spec/opcode_table.json, written out -/

theorem test_decode_voltage :
    decodeTableWord 24 0b00000001001000110100 = some (.voltage 0x1234) := by decide
theorem test_decode_forceX :
    decodeTableWord 24 0b00010001001000110100 = some (.forceX 0x1234) := by decide
theorem test_decode_forceY :
    decodeTableWord 24 0b00101110110111001100 = some (.forceY 0xEDCC) := by decide
theorem test_decode_forceZ :
    decodeTableWord 24 0b00110100000000000000 = some (.forceZ 0x4000) := by decide
theorem test_decode_momentX :
    decodeTableWord 24 0b01000000000000000001 = some (.momentX 0x0001) := by decide
theorem test_decode_momentY :
    decodeTableWord 24 0b01011000000000000001 = some (.momentY 0x8001) := by decide
theorem test_decode_momentZ :
    decodeTableWord 24 0b01100111111111111111 = some (.momentZ 0x7FFF) := by decide
theorem test_decode_calibration :
    decodeTableWord 24 0b01110000101001010101 = some (.calibration 0x0A 0x55) := by decide
theorem test_decode_reserved :
    decodeTableWord 24 0b10000000000000000000 = some (.reserved 8 0) ∧
    decodeTableWord 24 0b11111010101010101010 = some (.reserved 15 0xAAAA) := by decide
theorem test_decode_initialize :
    decodeTableWord 40 0x0100000000 = some (.initializeCmd 0) := by decide
theorem test_decode_setFilter :
    decodeTableWord 40 0x02ABCD03E8 = some (.setFilter 0xABCD 1000) := by decide
theorem test_decode_calibrate : decodeTableWord 40 0x0300000001 = some (.calibrate 1) := by decide
theorem test_decode_startSync : decodeTableWord 40 0x0480000000 = some (.startSync 0x80000000) := by decide
theorem test_decode_startAsync : decodeTableWord 40 0x05000001F4 = some (.startAsync 500) := by decide
theorem test_decode_stop : decodeTableWord 40 0x06FFFFFFFF = some (.stop 0xFFFFFFFF) := by decide
theorem test_decode_acquire : decodeTableWord 40 0x0700000000 = some (.acquire 0) := by decide
theorem test_decode_getFullScales :
    decodeTableWord 40 0x0800000000 = some (.getFullScales 0) := by decide
theorem test_decode_getState : decodeTableWord 40 0x0900000000 = some (.getState 0) := by decide
theorem test_decode_isConnected : decodeTableWord 40 0x0A00000000 = some (.isConnected 0) := by decide
theorem test_decode_line :
    decodeTableWord 8 0b10 = some (.line true false) ∧
    decodeTableWord 8 0b01 = some (.line false true) := by decide

/-- R106, and bits above a format: rejected by name. -/
theorem test_decode_rejects :
    decode (.command 0x0000000000) = .error (.illegalCommand 0x00) ∧
    decode (.command 0x0B00000000) = .error (.illegalCommand 0x0B) ∧
    decode (.command 0xFF00000000) = .error (.illegalCommand 0xFF) ∧
    decodeTableWord 8 4 = none ∧ decodeTableWord 24 0x100000 = none ∧ decodeTableWord 48 0 = none := by
  decide

/-! ## The codec: tables B3, B4 and B5 -/

theorem test_decodeRaw :
    decodeRaw 31 0x1234 = 0x12340000 ∧ decodeRaw 31 0xEDCC = 0xEDCC0000 ∧
    decodeRaw 24 0xBFFF = 0xFF7FFE00 ∧ decodeRaw 15 0x8001 = 0xFFFF8001 ∧
    decodeRaw 31 0x0000 = 0x00008000 ∧ decodeRaw 31 0xFFFF = 0xFFFF8000 ∧
    decodeRaw 31 0x8000 = 0xC0000000 ∧ decodeRaw 31 0xFFFE = 0xFFFF0000 := by decide

theorem test_pack :
    pack (-2) 0x48D0 = 0x3E11A000 ∧ pack (-7) 0x8080 = 0xBBFF0000 ∧ pack 0 0x8000 = 0xBF000000 ∧
    pack (-127) 0x4000 = 0x7F800000 ∧ pack 0 0xFFFF = 0xBF000200 := by decide

theorem test_decodeCal :
    decodeCal 31 0xA000 (-1) = 0xD0000000 ∧ decodeCal 24 0x5A5A (-3) = 0x00169680 ∧
    decodeCal 31 0x4000 1 = 0x7FFFFFFF ∧ decodeCal 31 0xA000 (-40) = 0xFFFFFFFF ∧
    decodeCal 31 0x4000 (-31) = 0 ∧ decodeCal 31 0x4000 (-128) = 0x7FFFFFFF ∧
    decodeCal 31 0x2000 0 = 0x60000000 ∧ decodeCal 16 0x8001 0 = 0xFFFF0002 := by decide

theorem test_encodeNumber :
    encodeNumber 31 0x12345678 = 0x1234 ∧ encodeNumber 24 0x12345678 = 0x7FFF ∧
    encodeNumber 31 0xFFFEFFFF = 0xFFFE ∧ encodeNumber 24 0xFFFEFFFF = 0xFF7F ∧
    encodeNumber 15 0xFFFF0000 = 0x8000 := by decide

theorem test_alphaOf :
    alphaOf 8000 1 = 0x000041E2 ∧ alphaOf 8000 65535 = 0x2B7ED36D ∧ alphaOf 1000 500 = 0x03E614D8 ∧
    alphaOf 1000000000 1 = 0 := by decide

/-! ## Frames: the dispatch table of B7 -/

theorem test_voltage_breaks :
    seen State.expect (exec (.voltage 0x1234) (looping .momentX)) = some .forceX := by decide

theorem test_forceX :
    nextOf (exec (.forceX 0x1234) (looping .forceX)) =
      some { looping .forceY with raw := ⟨0x12340000, 0, 0, 0, 0, 0⟩ } := by decide

theorem test_forceX_outOfSequence :
    nextOf (exec (.forceX 0x1234) (looping .forceZ)) = some (looping .forceX) := by decide

theorem test_forceY :
    nextOf (exec (.forceY 0xEDCC) (looping .forceY)) =
      some { looping .forceZ with raw := ⟨0, 0xEDCC0000, 0, 0, 0, 0⟩ } := by decide

theorem test_forceZ :
    nextOf (exec (.forceZ 0x4000) (looping .forceZ)) =
      some { looping .momentX with raw := ⟨0, 0, 0x40000000, 0, 0, 0⟩ } := by decide

theorem test_momentX :
    nextOf (exec (.momentX 0x0001) (looping .momentX)) =
      some { looping .momentY with raw := ⟨0, 0, 0, 0x00010000, 0, 0⟩ } := by decide

theorem test_momentY :
    nextOf (exec (.momentY 0x8001) (looping .momentY)) =
      some { looping .momentZ with raw := ⟨0, 0, 0, 0, 0x80010000, 0⟩ } := by decide

/-- Program P3, the first revolution. -/
theorem test_momentZ :
    nextOf (exec (.momentZ 0x7FFF)
        { looping .momentZ with
          raw := ⟨0x12340000, 0xEDCC0000, 0x40000000, 0x00010000, 0x80010000, 0⟩ }) =
      some { looping .forceX with
        raw := ⟨0x12340000, 0xEDCC0000, 0x40000000, 0x00010000, 0x80010000, 0x7FFF0000⟩
        dec := ⟨0x091A0000, 0xF0128000, 0x20000000, 0x00008000, 0xC0008000, 0x3FFF8000⟩
        fil := ⟨0x091A0000, 0xF0128000, 0x20000000, 0x00008000, 0xC0008000, 0x3FFF8000⟩
        shared := ⟨0x091A0000, 0xF0128000, 0x20000000, 0x00008000, 0xC0008000, 0x3FFF8000⟩
        counter := 1 } := by decide

/-- Vectors L5 and L6: the saturating subtraction and the counter's wrap. -/
theorem test_momentZ_saturates :
    seen (fun t => (t.shared, t.counter)) (exec (.momentZ 0x7FFF)
        { looping .momentZ with
          coef := Six.fill (Six.fill 0x7FFFFFFF)
          raw := Six.fill 0x7FFF0000
          off := Six.fill 0x80000000
          counter := 0xFFFF }) =
      some (Six.fill 0x7FFFFFFF, 0) := by decide

/-- Vectors L7, L9, L10 and L11. -/
theorem test_filter :
    filterAxis 0x41E2 0 0x00010000 = 0 ∧ filterAxis 0x41E2 0 0xFFFF8000 = 0xFFFFFFFF ∧
    filterAxis 0x41E2 0x20000001 0x20000000 = 0x20000000 ∧
    filterAxis 0x41E2 0x1FFE0EA2 0x20000000 = 0x1FFE0EA2 ∧
    filterAxis 0x41E2 0x1FFE0EA1 0x20000000 = 0x1FFE0EA2 := by decide

/-- Vectors PA2 and PA4: the first byte is taken at any address, a skipped address is dropped. -/
theorem test_calibration_stores :
    nextOf (exec (.calibration 0x0A 0x55) (parsing 0 0)) =
      some { parsing 1 0x0A with img := [(0x0A, 0x55)] } ∧
    nextOf (exec (.calibration 0x0C 0x77) (parsing 1 0x0A)) = some (parsing 1 0x0A) := by decide

/-- R204 to R206: the last byte completes the parse. Bytes of the image of P2 at 28 to 32; R61: the sequence 0xFF, 0x00. -/
theorem test_calibration_completes :
    seen (fun t => (t.coef.forceY.forceX, t.fs.forceX, t.ctl, t.seq, t.out))
        (exec (.calibration 0x00 0x00)
          { parsing 255 0xFF with img := [(28, 0x64), (31, 0xA0), (32, 0xFF)] }) =
      some (0xD0000000, 0x0064, .ready, .none, [.resp .ok []]) := by decide

/-- F 15 at e = 2; and PA1, a reserved frame during a parse. -/
theorem test_reserved :
    nextOf (exec (.reserved 15 0) (looping .forceY)) = some (looping .forceX) ∧
    nextOf (exec (.reserved 9 0x55) (parsing 1 0x0A)) = some (parsing 1 0x0A) := by decide

/-! ## Commands: the vectors of B8 -/

theorem test_initialize :
    nextOf (exec (.initializeCmd 0) { ready with zeroPending := true }) =
      some { ready with ctl := .uninitialized, seq := .parse } := by decide

/-- Vector K6, its first part. -/
theorem test_initialize_waits :
    nextOf (exec (.initializeCmd 0) (looping .forceX)) =
      some (waiting .parse (looping .forceX)) := by decide

theorem test_setFilter :
    nextOf (exec (.setFilter 0 1000) (looping .forceX)) =
      some { looping .forceX with cutoff := 1000, alpha := 0x00FF5A8D, out := [.resp .ok []] } := by
  decide

theorem test_calibrate :
    nextOf (exec (.calibrate 0) ready) =
      some { ready with zeroPending := true, out := [.resp .ok []] } ∧
    seen State.out (exec (.calibrate 0) fresh) = some [.resp .notInitialized []] := by decide

/-- Vector K3: the request stays over the start. -/
theorem test_startSync :
    nextOf (exec (.startSync 0) { ready with zeroPending := true, fil := Six.fill 7 }) =
      some { looping .forceX with zeroPending := true, out := [.resp .ok []] } := by decide

/-- Program P5. -/
theorem test_startAsync :
    nextOf (exec (.startAsync 500) ready) =
      some { pushing with out := [.push [0, 0, 0, 0, 0, 0, 0], .resp .ok []] } := by decide

/-- Vector K5: the restart completes at the loop top of F 2. -/
theorem test_startAsync_restarts :
    seen (fun t => (t.out, t.counter, t.period, t.expect, t.seq))
        (exec (.forceY 0x0200)
          (waiting (.startAsync 250) { looping .forceY with counter := 1, shared := Six.fill 9 })) =
      some ([.push [0, 0, 0, 0, 0, 0, 0], .resp .ok []], 0, 250, .forceX, .none) := by decide

/-- Vector K4. -/
theorem test_stop :
    nextOf (exec (.stop 0) { ready with zeroPending := true }) =
      some { ready with out := [.resp .ok []] } := by decide

/-- Program P5 with STOP_OBSERVE = revolution: F 2 does not end the loop, a FORCE_X boundary does. -/
theorem test_stop_observedAtTheRevolution :
    seen State.decActive (exec (.forceY 0x0200)
        (waiting .done { looping .forceY with cfg := ⟨31, 8000, 4, .revolution⟩ })) = some true ∧
    seen State.decActive (exec (.momentZ 0x4000)
        (waiting .done { looping .momentZ with cfg := ⟨31, 8000, 4, .revolution⟩ })) = some false := by
  decide

/-- Program P3 and vector K2. -/
theorem test_acquire :
    seen State.out (exec (.acquire 0)
        { looping .forceX with
          shared := ⟨0x0927C315, 0xF02A4B95, 0x1F8053B8, 0x00007F80, 0xC0008000, 0x3F7FD6B6⟩
          counter := 2 }) =
      some [.resp .ok [0x0927, 0xF02A, 0x1F80, 0x0000, 0xC000, 0x3F7F, 0x0002]] ∧
    seen State.out (exec (.acquire 0) ready) = some [.resp .notRunning []] := by decide

theorem test_getFullScales :
    seen State.out (exec (.getFullScales 0) ready) =
      some [.resp .ok [0x0064, 0x00C8, 0x012C, 0x000A, 0xFFF6, 0x8000]] := by decide

theorem test_getState :
    seen State.out (exec (.getState 0) ready) = some [.resp .ok [1]] ∧
    seen State.out (exec (.getState 0) fresh) = some [.resp .ok [0]] := by decide

theorem test_isConnected :
    nextOf (exec (.isConnected 0) { fresh with probeN := 3 }) = some (probing 0 false) := by decide

/-! ## Line samples: vectors D1, D2 and program P1; table B2 -/

/-- D2's fourth and P1's third sample: a clock low aborts PULSE, a rise of the data line starts the shift. -/
theorem test_line_pulse :
    seen State.phase (exec (.line false false) { parsing 0 0 with phase := .pulse }) = some .idle ∧
    seen (fun t => (t.phase, t.bit, t.acc))
        (exec (.line true true) { parsing 0 0 with phase := .pulse, acc := 0xFFFFF, bit := 3 }) =
      some (.fall, 19, 0) := by decide

/-- P1's last sample completes 0x1ABCD; here it reaches the decode loop as FORCE_X. -/
theorem test_line_completes :
    seen (fun t => (t.phase, t.bit, t.acc, t.raw.forceX, t.expect))
        (exec (.line true true) { looping .forceX with phase := .rise, bit := 0, acc := 0x1ABCC }) =
      some (.idle, 0, 0x1ABCD, 0xABCD0000, .forceY) := by decide

/-- B2: a change at the bound answers 1, no change answers 0. -/
theorem test_probe :
    seen State.out (exec (.line true true) (probing 3 false)) = some [.resp .ok [1]] ∧
    seen State.out (exec (.line false true) (probing 3 false)) = some [.resp .ok [0]] ∧
    seen State.out (exec (.line false true) (probing 2 false)) = some [] := by decide

/-! ## The step -/

/-- P5: a Tick pushes; with a stop request it ends the async agent and the stop sequence. -/
theorem test_tick :
    seen State.out (step (withEvents [.tick] pushing)) = some [.push [0, 0, 0, 0, 0, 0, 0]] ∧
    seen (fun t => (t.out, t.asyncActive, t.seq))
        (step (withEvents [.tick] (waiting .done { pushing with decActive := false }))) =
      some ([.resp .ok []], false, .none) := by decide

/-- R340. -/
theorem test_reset :
    nextOf (step (withEvents [.reset] (waiting .done pushing))) = some fresh := by decide

/-- The first step after Reset runs what `withFetchWord` places: a frame of each kind, a command, a sample, an illegal
op. -/
theorem test_withFetchWord :
    seen State.raw (step (State.reset.withFetchWord 24 0x11234)) = some ⟨0x12340000, 0, 0, 0, 0, 0⟩ ∧
    seen State.img (step (State.reset.withFetchWord 24 0x70A55)) = some [(0x0A, 0x55)] ∧
    seen State.out (step (State.reset.withFetchWord 40 0x0900000000)) = some [.resp .ok [0]] ∧
    seen State.seq (step (State.reset.withFetchWord 8 3)) = some .none ∧
    seen State.out (step (State.reset.withFetchWord 40 0x0B00000000)) =
      some [.resp .illegalCommand []] := by decide

/-! ## Witnesses: states and operands that meet the hypotheses of each statement -/

/-- A state in the middle of everything: both agents running, an image, a frame half received, events waiting. -/
def good : State :=
  let img : Memory := [(28, 0x64), (31, 0xA0), (32, 0xFF)]
  { pushing with
    img := img
    coef := Six.ofFn fun i => Six.ofFn fun j => extractCoef 31 img i j
    fs := Six.ofFn fun i => extractFullScale img i
    phase := .fall
    bit := 10
    acc := 0x70800
    input := [.line 2, .tick] }

theorem witness_DecodeReadsBackEncode :
    WellFormed (.reserved 8 0xFFFF) ∧ WellFormed (.setFilter 0xFFFF 0) ∧ WellFormed (.line true false) := by
  decide

theorem witness_EncodeReadsBackDecode :
    decode (.frame 0xFFFFF) = .ok (.reserved 15 0xFFFF) ∧ decode (.line 3) = .ok (.line true true) ∧
    decode (.command 0x0AFFFFFFFF) = .ok (.isConnected 0xFFFFFFFF) := by decide

theorem witness_IllegalCommandsAnswered :
    CommandWord.op 0x0012345678 = 0x00 ∧ 0x0B ≤ (CommandWord.op 0x0B00000000).toNat ∧
    0x0B ≤ (CommandWord.op 0xFF00000000).toNat ∧
    (withEvents [.command 0x0B00000000] (looping .forceY)).input = [.command 0x0B00000000] ∧
    (withEvents [.command 0x0B00000000] (looping .forceY)).seq = .none := by decide

theorem witness_StepRunsTheDecodedInstruction :
    (withEvents [.line 2, .tick] ready).input = [.line 2, .tick] ∧
    (withEvents [.command 0x0600000000] ready).input = [.command 0x0600000000] ∧
    decodeCommand 0x0600000000 = .ok (.stop 0) := by decide

theorem witness_NoMoveChangesNothing :
    fresh.input = [] ∧ (parsing 3 7).seq ≠ .none ∧
    (withEvents [.command 0x0700000000] (parsing 3 7)).input = [.command 0x0700000000] ∧
    (looping .forceX).asyncActive = false ∧ (withEvents [.tick] (looping .forceX)).input = [.tick] ∧
    isStrayFrame (.forceX 0x1234) = true ∧ consumerActive ready = false := by decide

theorem witness_TickPushesOrExits :
    (withEvents [.tick] pushing).asyncActive = true ∧ (withEvents [.tick] pushing).input = [.tick] ∧
    pushing.stopReq = false ∧ (waiting .done pushing).stopReq = true ∧
    (waiting .done pushing).decActive = true ∧
    (waiting .parse { pushing with decActive := false }).decActive = false ∧
    (waiting .parse { pushing with decActive := false }).seq = .stopping .parse := by decide

theorem witness_ResetEventRestoresReset :
    (withEvents [.reset, .tick] pushing).input = [.reset, .tick] := by decide

theorem witness_ResetRegisterValues :
    ∃ s, (withEvents [.reset] pushing).input = [.reset] ∧ step (withEvents [.reset] pushing) = .next s :=
  ⟨_, rfl, rfl⟩

theorem witness_DecoderTransitions :
    consumerActive (parsing 0 0) = true ∧ (parsing 0 0).phase = .idle ∧
    consumerActive { looping .forceX with phase := .armed } = true ∧
    consumerActive { looping .forceX with phase := .pulse } = true ∧
    consumerActive { looping .forceX with phase := .fall } = true ∧
    consumerActive { looping .forceX with phase := .rise, seq := .probe } = true := by decide

theorem witness_RisingEdgeCapturesTheBit :
    consumerActive { parsing 0 0 with phase := .rise, bit := 19 } = true ∧
    ({ parsing 0 0 with phase := .rise, bit := 19 } : State).bit ≠ 0 ∧
    ({ looping .forceX with phase := .rise, bit := 1 } : State).bit ≠ 0 := by decide

theorem witness_CompletedFrameRunsItsInstruction :
    consumerActive { looping .forceX with phase := .rise, bit := 0 } = true ∧
    ({ looping .forceX with phase := .rise, bit := 0 } : State).phase = .rise := by decide

theorem witness_ProbeLooksAtTheClock :
    ready.seq = .none ∧ consumerActive (probing 0 false) = false ∧ (parsing 0 0).seq ≠ .probe ∧
    (probing 1 false).seq = .probe ∧ 1 ≤ (probing 1 false).probeN ∧
    true ≠ (probing 1 false).probeLast ∧ (probing 0 true).probeN = 0 ∧
    (probing 3 true).probeN + 1 = (probing 3 true).cfg.nProbe ∧ true = (probing 3 true).probeLast := by
  decide

theorem witness_ProbeAnswersWithinItsBound :
    (probing 0 false).seq = .probe ∧ (probing 0 false).probeN = 0 ∧
    (probing 0 false).decActive = false ∧ (probing 0 false).cfg.Legal ∧
    [true, true, true, true].length = (probing 0 false).cfg.nProbe ∧
    1 ≤ [true].length ∧ [true, true, true].length < (probing 0 false).cfg.nProbe := by decide

theorem witness_EveryWaveformDeliversItsFrame :
    consumerActive (parsing 0 0) = true ∧ (parsing 0 0).seq ≠ .probe ∧ (parsing 0 0).phase = .idle ∧
    consumerActive { looping .forceZ with phase := .armed } = true := by decide

theorem witness_SpuriousPulseWithoutClockIsHarmless :
    consumerActive (looping .forceX) = true ∧ (looping .forceX).seq ≠ .probe ∧
    (looping .forceX).phase = .idle ∧ ({ parsing 0 0 with phase := .armed } : State).phase = .armed := by
  decide

theorem witness_LeadingZeroCount :
    (0x0001 : Word16) ≠ 0 ∧ 15 - clz16 0x0002 < 2 ∧ 15 - clz16 0x4000 < 15 := by decide

theorem witness_NormalizeKeepsTheValue :
    (0x0001 : Word16) ≠ 0x0000 ∧ (0x0001 : Word16) ≠ 0xFFFF ∧ (0xFFFE : Word16) ≠ 0xFFFF := by decide

theorem witness_PackedWordOfValidPair :
    validPair 0x4000 (-126) = true ∧ validPair 0x7FFF 127 = true ∧ validPair 0x8001 0 = true := by decide

theorem witness_ValidPairDecodesToItsValue :
    validPair 0xBFFF (-126) = true ∧ validPair 0x5A5A (-3) = true := by decide

theorem witness_ExtremeExponents : (15 : Nat) ≤ 15 ∧ (31 : Nat) ≤ 31 ∧ (-128 : Int) = -128 := by decide

theorem witness_RawValuesDecodeExactly :
    (15 : Nat) ≤ 15 ∧ (0x0001 : Word16) ≠ 0x0000 ∧ (0x0001 : Word16) ≠ 0xFFFF ∧
    halvedRaw 0x0001 = false ∧ halvedRaw 0x8001 = false ∧ halvedRaw 0x8000 = true ∧
    halvedRaw 0xFFFE = true := by decide

theorem witness_RawValuesRoundTrip : (15 : Nat) ≤ 24 ∧ (24 : Nat) ≤ 31 := by decide

theorem witness_ValidPairsRoundTrip :
    (15 : Nat) ≤ 31 ∧ (31 : Nat) ≤ 31 ∧ validPair 0x4000 127 = true ∧ validPair 0xA000 (-40) = true := by
  decide

theorem witness_SmoothingCoefficient :
    1 ≤ 1 ∧ (0x0001 : Word16) ≠ 0 ∧ (0x0001 : Word16).toNat ≤ (0xFFFF : Word16).toNat := by decide

theorem witness_FilterNeverOvershoots :
    (0x41E2 : Word32).toNat ≤ 2 ^ 31 ∧ (0x80000000 : Word32).toNat = 2 ^ 31 ∧ (0 : Word32).toNat = 0 ∧
    (0x80000000 : Number).toInt < (0x7FFFFFFF : Number).toInt ∧
    ((0x41E2 : Word32).toNat : Int) * ((0x20000000 : Number).toInt - (0x1FFE0EA2 : Number).toInt) <
      2 ^ 31 := by decide

theorem witness_ParserDiscardsOtherFrames : (parsing 5 4).seq = .parse := by decide

theorem witness_ParserStoresSequentialBytes :
    (parsing 0 0).seq = .parse ∧ (parsing 0 0).calCount = 0 ∧ (parsing 0 0).calCount + 1 ≠ 256 ∧
    Memory.wf (parsing 0 0).img ∧ (0x00 : Byte).toNat = ((parsing 56 0xFF).calLast.toNat + 1) % 256 ∧
    (parsing 254 0xFD).calCount + 1 ≠ 256 ∧
    ¬((parsing 1 0x0A).calCount = 0 ∨ (0x0C : Byte).toNat = ((parsing 1 0x0A).calLast.toNat + 1) % 256) := by
  decide

theorem witness_LastByteCompletesTheParse :
    (parsing 255 0xFE).seq = .parse ∧ (parsing 255 0xFE).calCount = 255 ∧
    (0xFF : Byte).toNat = ((parsing 255 0xFE).calLast.toNat + 1) % 256 ∧
    Memory.wf (parsing 255 0xFE).img := by decide

theorem witness_WholeImageIsParsed :
    (parsing 0 0).seq = .parse ∧ (parsing 0 0).calCount = 0 ∧ Memory.wf (parsing 0 0).img ∧
    ∀ i ∈ [Instr.forceX 0x1111, Instr.voltage 0xFFFF], isStrayFrame i = true := by decide

theorem witness_LoopTopLatchesAndObserves :
    ¬((looping .forceX).stopReq = true) ∧ (waiting .done pushing).stopReq = true ∧
    (waiting .done pushing).cfg.stopObserve = .frame ∧ (waiting .done pushing).asyncActive = true ∧
    (waiting .parse (looping .forceX)).asyncActive = false ∧
    (waiting .parse (looping .forceX)).seq = .stopping .parse ∧
    ¬((.revolution : StopObserve) = .frame ∨ (looping .momentZ).expect = .forceX) := by decide

theorem witness_AxisFramesAdvanceTheSequence :
    (parsing 0 0).seq = .parse ∧ (looping .forceX).seq ≠ .parse ∧ (looping .forceX).decActive = true ∧
    (looping .forceX).expect = .forceX ∧ (looping .momentY).expect = .momentY ∧
    (looping .forceZ).expect ≠ .forceX ∧ (looping .forceZ).stopReq = false := by decide

theorem witness_OtherFramesBreakTheSequence :
    (parsing 0 0).seq = .parse ∧ Instr.reserved 15 0 ≠ .calibration 0 0 ∧
    (looping .momentZ).seq ≠ .parse ∧ (looping .momentZ).decActive = true ∧
    (looping .momentZ).stopReq = false := by decide

theorem witness_MomentZCompletesTheRevolution :
    (parsing 0 0).seq = .parse ∧ (looping .momentZ).seq ≠ .parse ∧ (looping .momentZ).decActive = true ∧
    (looping .momentZ).expect = .momentZ ∧ (looping .forceX).expect ≠ .momentZ ∧
    (looping .momentZ).zeroPending = false ∧
    ({ looping .momentZ with zeroPending := true } : State).zeroPending = true := by decide

theorem witness_ZeroOffsetReadsZero :
    let s : State := { looping .momentZ with zeroPending := true, fil := Six.fill 7 }
    s.seq = .none ∧ s.ctl = .ready ∧ s.decActive = true ∧ s.stopReq = false ∧ s.expect = .momentZ ∧
    s.zeroPending = true ∧ ∃ t, exec (.momentZ 0x1234) s = .next t :=
  ⟨rfl, rfl, rfl, rfl, rfl, rfl, _, rfl⟩

theorem witness_RevolutionsNeedTheWholeSequence :
    let s : State := withEvents [.line 3] { looping .momentZ with phase := .rise, bit := 0, acc := 0x60000 }
    s.input = [.line 3] ∧ s.stopReq = false ∧
    ∃ t, step s = .next t ∧ t.counter ≠ s.counter ∧ t.expect ≠ s.expect :=
  ⟨rfl, rfl, _, rfl, by decide, by decide⟩

theorem witness_StopSequenceSteps : running pushing = true ∧ running ready = false := by decide

theorem witness_StopCompletesAtTheNextFrame :
    let s := waiting .done (looping .forceZ)
    isStrayFrame (.reserved 15 0) = true ∧ s.seq = .stopping .done ∧ s.decActive = true ∧
    s.asyncActive = false ∧ s.stopReq = true ∧ s.cfg.stopObserve = .frame ∧
    ∃ t, exec (.reserved 15 0) s = .next t :=
  ⟨rfl, rfl, rfl, rfl, rfl, rfl, _, rfl⟩

theorem witness_UninitializedRefusesCommands : fresh.seq = .none ∧ fresh.ctl = .uninitialized := by decide

theorem witness_RefusalsChangeNothing :
    exec (.acquire 0) ready = .next { ready with out := ready.out ++ [.resp .notRunning []] } ∧
    .resp .notRunning [] ∈ [Output.resp .notRunning []] ∧ Status.notRunning ≠ .ok :=
  ⟨rfl, by decide, by decide⟩

theorem witness_InitializeStopsAndParses :
    ready.seq = .none ∧ running ready = false ∧ fresh.seq = .none ∧ running fresh = false ∧
    pushing.seq = .none ∧ running pushing = true := by decide

theorem witness_SetFilterAndCalibrateTakeEffect :
    pushing.seq = .none ∧ pushing.ctl = .ready ∧ ready.seq = .none ∧ ready.ctl = .ready ∧
    fresh.seq = .none ∧ fresh.ctl = .uninitialized := by decide

theorem witness_StartSyncStartsTheLoop :
    ready.seq = .none ∧ ready.ctl = .ready ∧ running ready = false := by decide

theorem witness_StartAsyncStartsBothAgents :
    ready.seq = .none ∧ ready.ctl = .ready ∧ running ready = false := by decide

theorem witness_StartWhileRunningStopsFirst :
    pushing.seq = .none ∧ pushing.ctl = .ready ∧ running pushing = true := by decide

theorem witness_StopCompletesOrWaits :
    ready.seq = .none ∧ ready.ctl = .ready ∧ running ready = false ∧
    (looping .forceX).ctl = .ready ∧ running (looping .forceX) = true := by decide

theorem witness_AcquireReadsTheSample :
    pushing.seq = .none ∧ pushing.ctl = .ready ∧ pushing.decActive = true ∧ ready.seq = .none ∧
    ready.ctl = .ready ∧ ready.decActive = false := by decide

theorem witness_GettersAnswer : ready.seq = .none ∧ ready.ctl = .ready ∧ fresh.seq = .none := by decide

/-- `good` satisfies the invariant, and a step from it answers a next state. -/
theorem witness_EveryStepKeepsTheInvariant : Inv good ∧ ∃ t, step good = .next t :=
  ⟨{ cfg_legal := by decide
     img_wf := by decide
     alpha_le := by decide
     alphaL_le := by decide
     dec_ready := fun _ => rfl
     async_ready := fun _ => rfl
     async_mode := fun _ => rfl
     mode_none := by decide
     stop_stopping := fun h => absurd h (by decide)
     stopping_waits := fun _ h => nomatch h
     parse_partial := fun h => nomatch h
     calCount_le := by decide
     probeN_le := by decide
     probe_waits := fun h => nomatch h
     acc_clear := fun _ k hk => by
       have : ∀ k : Fin 11, good.acc.getLsbD k = false := by decide
       exact this ⟨k, Nat.lt_succ_of_le hk⟩
     coef_extracted := fun _ i j => by cases i <;> cases j <;> rfl
     fs_extracted := fun _ i => by cases i <;> rfl
     buffer_zero := fun h => absurd h (by decide) }, _, rfl⟩

theorem witness_StepEmitsAtMostOneOfEach : ∃ t, step good = .next t := ⟨_, rfl⟩

theorem witness_OnlySetFilterWritesAlpha :
    let s := withEvents [.command 0x0200000001] ready
    ∃ t, step s = .next t ∧ t.cutoff ≠ s.cutoff := ⟨_, rfl, by decide⟩

theorem witness_OnlyTheParserWritesTheImage :
    let s := withEvents [.line 3] { parsing 0 0 with phase := .rise, bit := 0, acc := 0x70A54 }
    Memory.wf s.img ∧ ∃ t, step s = .next t ∧ t.img.read 0x0A ≠ s.img.read 0x0A :=
  ⟨by decide, _, rfl, by decide⟩

theorem witness_CounterStepsByOneOrClears : ∃ t, step good = .next t := ⟨_, rfl⟩

theorem witness_InertRegistersChangeNoStep :
    withoutInert pushing = withoutInert { pushing with cutoff := 9, period := 7, periodL := 3, mode := .sync } := by
  decide

end Sys2Proof.Tests
end

section
/-!
What a step may emit and what it leaves alone (R6): each shared operation of the model keeps the parameters and the
waiting events and appends its records to the emitted ones. The cases follow the laws of Ops and Exec.
-/

namespace Sys2Proof.Machine

/-! ### Appending records -/

/-- `t` has the parameters and the waiting events of `s`, and its emitted records are those of `s` and then `new`. -/
structure Emits (new : List Output) (s t : State) : Prop where
  cfg : t.cfg = s.cfg
  input : t.input = s.input
  out : t.out = s.out ++ new

/-- At most one response and at most one push among the records (R6). -/
def AtMostOneOfEach (new : List Output) : Prop :=
  (new.filter isResp).length ≤ 1 ∧ (new.filter fun o => !isResp o).length ≤ 1

/-- From `s` to `t` at most one response and at most one push are emitted. -/
def EmitsAtMostOne (s t : State) : Prop :=
  ∃ new, Emits new s t ∧ AtMostOneOfEach new

theorem atMostOneOfEach_nil : AtMostOneOfEach [] := by simp [AtMostOneOfEach]

theorem atMostOneOfEach_single (o : Output) : AtMostOneOfEach [o] := by
  exact ⟨List.length_filter_le _ [o], List.length_filter_le _ [o]⟩

theorem atMostOneOfEach_push_resp (record ws : List Word16) (st : Status) :
    AtMostOneOfEach [.push record, .resp st ws] := by
  simp [AtMostOneOfEach, List.filter_cons, isResp]

/-- A change of other fields emits nothing. -/
theorem emits_nil {s t : State} (hc : t.cfg = s.cfg) (hi : t.input = s.input) (ho : t.out = s.out) :
    Emits [] s t :=
  ⟨hc, hi, by rw [ho, List.append_nil]⟩

theorem Emits.trans {as bs : List Output} {s t u : State} (h : Emits as s t) (h' : Emits bs t u) :
    Emits (as ++ bs) s u :=
  ⟨h'.cfg.trans h.cfg, h'.input.trans h.input, by rw [h'.out, h.out, List.append_assoc]⟩

theorem Emits.atMostOne_single {o : Output} {s t : State} (h : Emits [o] s t) : EmitsAtMostOne s t :=
  ⟨[o], h, atMostOneOfEach_single o⟩

theorem Emits.atMostOne_nil {s t : State} (h : Emits [] s t) : EmitsAtMostOne s t :=
  ⟨[], h, atMostOneOfEach_nil⟩

theorem EmitsAtMostOne.refl (s : State) : EmitsAtMostOne s s := Emits.atMostOne_nil (emits_nil rfl rfl rfl)

theorem EmitsAtMostOne.after_silent {s t u : State} (h : EmitsAtMostOne t u) (h' : Emits [] s t) :
    EmitsAtMostOne s u :=
  let ⟨new, he, hn⟩ := h
  ⟨new, h'.trans he, hn⟩

theorem EmitsAtMostOne.then_silent {s t u : State} (h : EmitsAtMostOne s t) (h' : Emits [] t u) :
    EmitsAtMostOne s u :=
  let ⟨new, he, hn⟩ := h
  ⟨new, by simpa using he.trans h', hn⟩

/-! ### Commands, starts and the stop sequence -/

theorem emits_emitResp (st : Status) (ws : List Word16) (s : State) :
    Emits [.resp st ws] s (emitResp st ws s) := ⟨rfl, rfl, rfl⟩

theorem emits_refuse (st : Status) (s : State) : Emits [.resp st []] s (refuse st s) := ⟨rfl, rfl, rfl⟩

theorem emits_finishStartSync (s : State) : Emits [.resp .ok []] s (finishStartSync s) := ⟨rfl, rfl, rfl⟩

/-- START_ASYNC ends with the agent's first push and then the response (R266): the one place where a step emits both. -/
theorem finishStartAsync_emitsAtMostOne (p : Word32) (s : State) : EmitsAtMostOne s (finishStartAsync p s) :=
  ⟨[.push (sampleRecord (startAsyncAgent p s)), .resp .ok []],
    ⟨rfl, rfl, by simp [finishStartAsync]⟩, atMostOneOfEach_push_resp _ _ _⟩

theorem emits_clearShared (s : State) : Emits [] s (clearShared s) := emits_nil rfl rfl rfl

theorem stopComplete_emitsAtMostOne (after : AfterStop) (s : State) :
    EmitsAtMostOne s (stopComplete after s) := by
  refine EmitsAtMostOne.after_silent ?_ (emits_clearShared s)
  cases after with
  | done => exact Emits.atMostOne_single (o := .resp .ok []) ⟨rfl, rfl, rfl⟩
  | parse => exact Emits.atMostOne_nil (emits_nil rfl rfl rfl)
  | startSync => exact (emits_finishStartSync _).atMostOne_single
  | startAsync p => exact finishStartAsync_emitsAtMostOne p _

theorem stopCheck_emitsAtMostOne (s : State) : EmitsAtMostOne s (stopCheck s) := by
  rcases stopCheck_cases s with e | ⟨after, _, _, e⟩ <;> rw [e]
  · exact .refl s
  · exact stopComplete_emitsAtMostOne after s

theorem stopBegin_emitsAtMostOne (after : AfterStop) (s : State) : EmitsAtMostOne s (stopBegin after s) :=
  (stopCheck_emitsAtMostOne { requestStop s with seq := .stopping after }).after_silent (emits_nil rfl rfl rfl)

theorem restart_emitsAtMostOne (after : AfterStop) {start : State → State} {s : State}
    (h : EmitsAtMostOne s (start s)) : EmitsAtMostOne s (restart after start s) := by
  unfold restart
  split
  · exact stopBegin_emitsAtMostOne after s
  · exact h

theorem onPort_emitsAtMostOne {f : State → State} {s : State} (h : EmitsAtMostOne s (f s)) :
    EmitsAtMostOne s (onPort f s) := by
  rcases onPort_cases f s with ⟨_, e⟩ | ⟨_, e⟩ <;> rw [e]
  · exact .refl s
  · exact h

theorem guarded_emitsAtMostOne {f : State → State} {s : State} (h : EmitsAtMostOne s (f s)) :
    EmitsAtMostOne s (guarded f s) := by
  rcases guarded_cases f s with ⟨_, e⟩ | ⟨_, _, e⟩ | ⟨_, _, e⟩ <;> rw [e]
  · exact .refl s
  · exact (emits_refuse _ s).atMostOne_single
  · exact h

theorem acquire_emitsAtMostOne (s : State) :
    EmitsAtMostOne s (if s.decActive then emitResp .ok (sampleRecord s) s else refuse .notRunning s) := by
  split
  · exact (emits_emitResp _ _ s).atMostOne_single
  · exact (emits_refuse _ s).atMostOne_single

theorem illegalCommand_emitsAtMostOne (s : State) : EmitsAtMostOne s (illegalCommand s) :=
  onPort_emitsAtMostOne (emits_refuse _ s).atMostOne_single

theorem takeTick_emitsAtMostOne (s : State) : EmitsAtMostOne s (takeTick s) := by
  rcases takeTick_cases s with ⟨_, e⟩ | ⟨_, _, e⟩ | ⟨_, _, e⟩ <;> rw [e]
  · exact .refl s
  · exact (stopCheck_emitsAtMostOne { s with asyncActive := false }).after_silent (emits_nil rfl rfl rfl)
  · exact Emits.atMostOne_single ⟨rfl, rfl, rfl⟩

theorem takeReset_emitsAtMostOne (s : State) : EmitsAtMostOne s (takeReset s) :=
  Emits.atMostOne_nil (emits_nil rfl rfl rfl)

/-! ### Frames -/

/-- What the decode loop does with a frame before its loop top: it emits nothing and leaves the sequencer. -/
structure LoopQuiet (s t : State) : Prop where
  silent : Emits [] s t
  seq : t.seq = s.seq

theorem sequenceBreak_quiet (s : State) : LoopQuiet s (sequenceBreak s) := ⟨emits_nil rfl rfl rfl, rfl⟩

theorem loopAxis_quiet (a b : Axis) (p : Word16) (s : State) : LoopQuiet s (loopAxis a b p s) := by
  rcases loopAxis_cases a b p s with ⟨_, e⟩ | ⟨_, e⟩ <;> rw [e]
  · exact ⟨emits_nil rfl rfl rfl, rfl⟩
  · exact sequenceBreak_quiet s

theorem loopMomentZ_quiet (p : Word16) (s : State) : LoopQuiet s (loopMomentZ p s) := by
  rcases loopMomentZ_cases p s with ⟨_, e⟩ | ⟨_, e⟩ <;> rw [e]
  · obtain ⟨dec, fil, off, shared, e⟩ := completeRevolution_keeps (storeRaw .momentZ p s)
    rw [e]
    exact ⟨emits_nil rfl rfl rfl, rfl⟩
  · exact sequenceBreak_quiet s

theorem parseByte_emitsAtMostOne (a v : Byte) (s : State) : EmitsAtMostOne s (parseByte a v s) := by
  rcases parseByte_cases a v s with ⟨_, e⟩ | ⟨_, _, e⟩ | ⟨_, _, e⟩ <;> rw [e]
  · exact .refl s
  · exact Emits.atMostOne_nil (emits_nil rfl rfl rfl)
  · exact Emits.atMostOne_single (o := .resp .ok []) ⟨rfl, rfl, rfl⟩

theorem loopTop_emitsAtMostOne (s : State) : EmitsAtMostOne s (loopTop s) := by
  rcases loopTop_cases s with ⟨_, e⟩ | ⟨_, e, _⟩ | ⟨_, _, after, _, e⟩ <;> rw [e]
  · exact Emits.atMostOne_nil (emits_nil rfl rfl rfl)
  · exact Emits.atMostOne_nil (emits_nil rfl rfl rfl)
  · exact (stopComplete_emitsAtMostOne after _).after_silent (emits_nil rfl rfl rfl)

/-- With no stop sequence under way, the loop top completes none. -/
theorem loopTop_silent {s : State} (h : ∀ after, s.seq ≠ .stopping after) : Emits [] s (loopTop s) := by
  rcases loopTop_cases s with ⟨_, e⟩ | ⟨_, e, _⟩ | ⟨_, _, after, hs, _⟩
  · rw [e]; exact emits_nil rfl rfl rfl
  · rw [e]; exact emits_nil rfl rfl rfl
  · exact absurd hs (h after)

/-- The two meanings of a frame instruction, in parse context and in loop context (R220), with what they may emit. -/
structure FrameMeaning (i : Instr) (parser loop : State → State) : Prop where
  exec_eq : ∀ s, exec i s = .next (inContext parser loop s)
  parser_emits : ∀ s, EmitsAtMostOne s (parser s)
  loop_quiet : ∀ s, LoopQuiet s (loop s)

theorem frame_has_meaning {i : Instr} (h : ∃ f, encode i = .frame f) :
    ∃ parser loop, FrameMeaning i parser loop := by
  obtain ⟨f, h⟩ := h
  cases i
  case voltage p => exact ⟨_, _, exec_voltage p, .refl, sequenceBreak_quiet⟩
  case forceX p => exact ⟨_, _, exec_forceX p, .refl, loopAxis_quiet _ _ p⟩
  case forceY p => exact ⟨_, _, exec_forceY p, .refl, loopAxis_quiet _ _ p⟩
  case forceZ p => exact ⟨_, _, exec_forceZ p, .refl, loopAxis_quiet _ _ p⟩
  case momentX p => exact ⟨_, _, exec_momentX p, .refl, loopAxis_quiet _ _ p⟩
  case momentY p => exact ⟨_, _, exec_momentY p, .refl, loopAxis_quiet _ _ p⟩
  case momentZ p => exact ⟨_, _, exec_momentZ p, .refl, loopMomentZ_quiet p⟩
  case calibration a v =>
    exact ⟨_, _, exec_calibration a v, parseByte_emitsAtMostOne a v, sequenceBreak_quiet⟩
  case reserved ch p => exact ⟨_, _, exec_reserved ch p, .refl, sequenceBreak_quiet⟩
  all_goals cases h

theorem encode_decodeFrame_isFrame (f : Frame) : ∃ g, encode (decodeFrame f) = .frame g := by
  unfold decodeFrame
  split <;> exact ⟨_, rfl⟩

theorem exec_frame_emitsAtMostOne {i : Instr} (hi : ∃ f, encode i = .frame f) {s t : State}
    (h : exec i s = .next t) : EmitsAtMostOne s t := by
  obtain ⟨parser, loop, exec_eq, parser_emits, loop_quiet⟩ := frame_has_meaning hi
  rw [exec_eq] at h
  cases h
  rcases inContext_cases parser loop s with ⟨_, e⟩ | ⟨_, _, e⟩ | ⟨_, _, e⟩ <;> rw [e]
  · exact parser_emits s
  · exact (loopTop_emitsAtMostOne _).after_silent (loop_quiet s).silent
  · exact .refl s

/-- A frame emits only where it ends a parse or a stop sequence. -/
theorem exec_frame_silent {i : Instr} (hi : ∃ f, encode i = .frame f) {s t : State}
    (hp : s.seq ≠ .parse) (hs : ∀ after, s.seq ≠ .stopping after)
    (h : exec i s = .next t) : Emits [] s t := by
  obtain ⟨parser, loop, exec_eq, _, loop_quiet⟩ := frame_has_meaning hi
  rw [exec_eq] at h
  cases h
  rcases inContext_cases parser loop s with ⟨he, _⟩ | ⟨_, _, e⟩ | ⟨_, _, e⟩
  · exact absurd he hp
  · have hl := loop_quiet s
    rw [e]
    exact hl.silent.trans (loopTop_silent (by rwa [hl.seq]))
  · rw [e]
    exact emits_nil rfl rfl rfl

/-! ### The line sample -/

/-- The probe answers and leaves the sequencer idle, or emits nothing (R143). -/
theorem probeSample_emits (c : Bool) (s : State) :
    (∃ o, Emits [o] s (probeSample c s) ∧ (probeSample c s).seq = .none) ∨ Emits [] s (probeSample c s) := by
  rcases probeSample_cases c s with ⟨_, e⟩ | ⟨_, _, _, e⟩ | ⟨_, _, _, e⟩ | ⟨_, _, _, e⟩ <;> rw [e]
  · exact .inr (emits_nil rfl rfl rfl)
  · exact .inl ⟨_, ⟨rfl, rfl, rfl⟩, rfl⟩
  · exact .inl ⟨_, ⟨rfl, rfl, rfl⟩, rfl⟩
  · exact .inr (emits_nil rfl rfl rfl)

theorem probeSample_emitsAtMostOne (c : Bool) (s : State) : EmitsAtMostOne s (probeSample c s) := by
  rcases probeSample_emits c s with ⟨_, he, _⟩ | he
  · exact he.atMostOne_single
  · exact he.atMostOne_nil

/-- A probe that answers leaves the sequencer idle, so a frame that the same sample completes emits nothing more. -/
theorem execLine_emitsAtMostOne {c d : Bool} {s t : State} (h : execLine c d s = .next t) :
    EmitsAtMostOne s t := by
  rcases execLine_cases c d s with ⟨ph, b, a, e⟩ | ⟨_, _, _, _, e⟩ <;> rw [e] at h
  · cases h
    exact (probeSample_emitsAtMostOne c s).then_silent (emits_nil rfl rfl rfl)
  · have hf := encode_decodeFrame_isFrame (setFrameBit s.acc 0 d)
    have hr : Emits [] (probeSample c s)
        { probeSample c s with acc := setFrameBit s.acc 0 d, phase := .idle } := emits_nil rfl rfl rfl
    rcases probeSample_emits c s with ⟨_, he, hq⟩ | he
    · exact he.atMostOne_single.then_silent
        (hr.trans (exec_frame_silent hf (by simp [hq]) (by simp [hq]) h))
    · exact (exec_frame_emitsAtMostOne hf h).after_silent (he.trans hr)

/-! ### Every instruction and every event -/

theorem exec_emitsAtMostOne {i : Instr} {s t : State} (h : exec i s = .next t) : EmitsAtMostOne s t := by
  cases i
  case line c d => exact execLine_emitsAtMostOne h
  case initializeCmd a => cases h; exact onPort_emitsAtMostOne (stopBegin_emitsAtMostOne .parse s)
  case setFilter u c =>
    cases h
    exact guarded_emitsAtMostOne (Emits.atMostOne_single (o := .resp .ok []) ⟨rfl, rfl, rfl⟩)
  case calibrate a =>
    cases h
    exact guarded_emitsAtMostOne (Emits.atMostOne_single (o := .resp .ok []) ⟨rfl, rfl, rfl⟩)
  case startSync a =>
    cases h
    exact guarded_emitsAtMostOne (restart_emitsAtMostOne _ (emits_finishStartSync s).atMostOne_single)
  case startAsync p =>
    cases h
    exact guarded_emitsAtMostOne (restart_emitsAtMostOne _ (finishStartAsync_emitsAtMostOne p s))
  case stop a => cases h; exact guarded_emitsAtMostOne (stopBegin_emitsAtMostOne .done s)
  case acquire a => cases h; exact guarded_emitsAtMostOne (acquire_emitsAtMostOne s)
  case getFullScales a => cases h; exact guarded_emitsAtMostOne (emits_emitResp _ _ s).atMostOne_single
  case getState a => cases h; exact onPort_emitsAtMostOne (emits_emitResp _ _ s).atMostOne_single
  case isConnected a => cases h; exact onPort_emitsAtMostOne (Emits.atMostOne_nil (emits_nil rfl rfl rfl))
  all_goals exact exec_frame_emitsAtMostOne ⟨_, rfl⟩ h

theorem runPacket_ok {p : Packet} {i : Instr} (h : decode p = .ok i) (s : State) :
    runPacket p s = exec i s := by
  simp [runPacket, h]

theorem runPacket_error {p : Packet} {e : DecodeError} (h : decode p = .error e) (s : State) :
    runPacket p s = .next (illegalCommand s) := by
  simp [runPacket, h]

theorem runPacket_emitsAtMostOne {p : Packet} {s t : State} (h : runPacket p s = .next t) :
    EmitsAtMostOne s t := by
  cases hd : decode p with
  | ok i =>
    rw [runPacket_ok hd] at h
    exact exec_emitsAtMostOne h
  | error e =>
    rw [runPacket_error hd] at h
    cases h
    exact illegalCommand_emitsAtMostOne s

theorem runEvent_emitsAtMostOne {e : Event} {s t : State} (h : runEvent e s = .next t) :
    EmitsAtMostOne s t := by
  cases e with
  | line w => exact runPacket_emitsAtMostOne (p := .line w) h
  | command w => exact runPacket_emitsAtMostOne (p := .command w) h
  | tick => cases h; exact takeTick_emitsAtMostOne s
  | reset => cases h; exact takeReset_emitsAtMostOne s

/-- Settles O55: the event at the head is taken first, and what runs after it keeps the rest of the queue and the
parameters and emits at most one record of each kind. -/
theorem stepEmitsAtMostOneOfEach : Obligations.StepEmitsAtMostOneOfEach := by
  intro s t h
  rcases step_cases h with ⟨hi, rfl⟩ | ⟨e, rest, hi, hr⟩
  · obtain ⟨hresp, hpush⟩ := atMostOneOfEach_nil
    exact ⟨rfl, by simp [hi], [], by simp, hresp, hpush⟩
  · obtain ⟨new, ⟨hcfg, hinput, hout⟩, hresp, hpush⟩ := runEvent_emitsAtMostOne hr
    exact ⟨hcfg, by simp [hi, hinput], new, hout, hresp, hpush⟩

/-- Settles O8: both kinds of event run their packet, and a packet that decodes runs its instruction. -/
theorem stepRunsTheDecodedInstruction : Obligations.StepRunsTheDecodedInstruction := by
  intro s rest
  constructor
  · intro w hi
    rw [step_event hi]
    exact runPacket_ok (p := .line w) rfl _
  · intro w i hi hd
    rw [step_event hi]
    exact runPacket_ok (p := .command w) hd _

end Sys2Proof.Machine
end

section
/-!
The reset table (R50) and the invariant of the whole machine (R29 to R47, R60, R71, R272, R273): it holds at reset, each
shared operation keeps it, and so does every step. A lemma of the form `{ h with … }` names the clauses that the
operation touches; the registers of the others are as they were.
-/

namespace Sys2Proof.Machine

/-! ### Reset -/

theorem step_reset {s : State} {rest : List Event} (h : s.input = .reset :: rest) :
    step s = .next (takeReset { s with input := rest }) := step_event h

/-- Settles O12: the start state is R50's table, and a Reset event replaces all but the model's own fields by it. -/
theorem resetRegisterValues : Obligations.ResetRegisterValues := by
  intro s hs
  obtain ⟨cfg, input, out, rfl⟩ :
      ∃ cfg input out, s = { State.reset with cfg := cfg, input := input, out := out } := by
    rcases hs with rfl | ⟨r, rest, hi, h⟩
    · exact ⟨_, _, _, rfl⟩
    · rw [step_reset hi] at h
      cases h
      exact ⟨_, _, _, rfl⟩
  simp [State.reset, Memory.unlisted]

/-- The reset registers satisfy the invariant under any legal parameters. -/
theorem inv_reset {cfg : Params} (h : cfg.Legal) (input : List Event) (out : List Output) :
    Inv { State.reset with cfg := cfg, input := input, out := out } where
  cfg_legal := h
  img_wf := Memory.wf_nil
  alpha_le := Nat.le_refl (2 ^ 31)
  alphaL_le := Nat.le_refl (2 ^ 31)
  dec_ready := nofun
  async_ready := nofun
  async_mode := nofun
  mode_none := iff_of_true rfl rfl
  stop_stopping := nofun
  stopping_waits := nofun
  parse_partial := nofun
  calCount_le := Nat.zero_le _
  probeN_le := Nat.zero_le _
  probe_waits := nofun
  acc_clear := nofun
  coef_extracted := nofun
  fs_extracted := nofun
  buffer_zero := fun _ => ⟨rfl, rfl⟩

theorem configParams_legal : Config.params.Legal := by
  simp [Params.Legal, Config.params]

/-- Settles O53: the parameters at reset are legal. -/
theorem resetIsGood : Obligations.ResetIsGood := inv_reset configParams_legal [] []

/-! ### What the invariant says of a state at hand -/

section
variable {s : State}

/-- No stop is requested unless a stop sequence waits. -/
theorem Inv.stopReq_false (h : Inv s) (hs : ∀ after, s.seq ≠ .stopping after) : s.stopReq = false := by
  by_contra hr
  obtain ⟨after, e⟩ := h.stop_stopping (by simpa using hr)
  exact hs after e

theorem Inv.stopReq_idle (h : Inv s) (hs : s.seq = .none) : s.stopReq = false :=
  h.stopReq_false (by simp [hs])

/-- An agent runs only in READY (R40). -/
theorem Inv.running_ready (h : Inv s) (hr : running s = true) : s.ctl = .ready := by
  rcases Bool.or_eq_true_iff.1 hr with hd | ha
  · exact h.dec_ready hd
  · exact h.async_ready ha

theorem running_of_decActive (h : s.decActive = true) : running s = true := by simp [running, h]

/-! ### Records, starts and the stop sequence keep the invariant -/

theorem inv_emitResp {st : Status} {ws : List Word16} (h : Inv s) : Inv (emitResp st ws s) := { h with }

theorem inv_emitPush (h : Inv s) : Inv (emitPush s) := { h with }

theorem inv_refuse {st : Status} (h : Inv s) : Inv (refuse st s) := inv_emitResp h

/-- The state in which a completed stop sequence goes on (R272): neither agent runs, the shared state is cleared, and
the sequencer is free. -/
def halted (s : State) : State :=
  { clearShared s with seq := .none, decActive := false, asyncActive := false }

/-- Once both agents have exited, a completing stop sequence goes on from the halted state. -/
theorem clearShared_eq_halted (h : running s = false) :
    { clearShared s with seq := .none } = halted s := by
  obtain ⟨hd, ha⟩ := running_eq_false.1 h
  simp [halted, hd, ha]

theorem inv_halted (h : Inv s) : Inv (halted s) :=
  { h with
    dec_ready := nofun
    async_ready := nofun
    async_mode := nofun
    mode_none := iff_of_true rfl rfl
    stop_stopping := nofun
    stopping_waits := nofun
    parse_partial := nofun
    probe_waits := nofun
    buffer_zero := fun _ => ⟨rfl, rfl⟩ }

theorem inv_startParse (h : Inv s) (hs : s.seq = .none) (hr : running s = false) : Inv (startParse s) := by
  obtain ⟨hd, ha⟩ := running_eq_false.1 hr
  exact
    { h with
      dec_ready := fun e => absurd (hd.symm.trans e) nofun
      async_ready := fun e => absurd (ha.symm.trans e) nofun
      stop_stopping := fun e => absurd ((h.stopReq_idle hs).symm.trans e) nofun
      stopping_waits := nofun
      parse_partial := fun _ => ⟨rfl, Nat.two_pow_pos 8⟩
      calCount_le := Nat.zero_le _
      probe_waits := nofun
      acc_clear := nofun
      coef_extracted := nofun
      fs_extracted := nofun }

/-- The start procedure in READY, from an idle port with no agent running (R273). -/
theorem inv_startProcedure {m : Mode} (hm : m ≠ .none) (h : Inv s) (hs : s.seq = .none)
    (hr : running s = false) (hc : s.ctl = .ready) : Inv { startProcedure m s with seq := .none } := by
  obtain ⟨_, ha⟩ := running_eq_false.1 hr
  exact
    { h with
      alphaL_le := h.alpha_le
      dec_ready := fun _ => hc
      async_mode := fun e => absurd (ha.symm.trans e) nofun
      mode_none := iff_of_false hm nofun
      stop_stopping := fun e => absurd ((h.stopReq_idle hs).symm.trans e) nofun
      stopping_waits := nofun
      parse_partial := nofun
      probe_waits := nofun
      acc_clear := nofun
      buffer_zero := nofun }

theorem inv_finishStartSync (h : Inv s) (hs : s.seq = .none) (hr : running s = false)
    (hc : s.ctl = .ready) : Inv (finishStartSync s) :=
  inv_emitResp (inv_startProcedure nofun h hs hr hc)

theorem inv_finishStartAsync (p : Word32) (h : Inv s) (hs : s.seq = .none) (hr : running s = false)
    (hc : s.ctl = .ready) : Inv (finishStartAsync p s) :=
  have started := inv_startProcedure (m := .async) nofun h hs hr hc
  have agent : Inv { startAsyncAgent p s with seq := .none } :=
    { started with
      async_ready := fun _ => hc
      async_mode := fun _ => rfl
      mode_none := iff_of_false nofun nofun
      stopping_waits := nofun
      buffer_zero := nofun }
  inv_emitResp (inv_emitPush agent)

/-- A completed stop sequence starts a parse in any controller state, and an agent only in READY. -/
theorem inv_stopComplete {after : AfterStop} (h : Inv (halted s)) (hr : running s = false)
    (hc : after = .parse ∨ s.ctl = .ready) : Inv (stopComplete after s) := by
  have parse : Inv (startParse (halted s)) := inv_startParse h rfl rfl
  have sync : s.ctl = .ready → Inv (finishStartSync (halted s)) := inv_finishStartSync h rfl rfl
  have async : ∀ p, s.ctl = .ready → Inv (finishStartAsync p (halted s)) := fun p =>
    inv_finishStartAsync p h rfl rfl
  rw [← clearShared_eq_halted hr] at h parse sync async
  cases after with
  | done => exact inv_emitResp h
  | parse => exact parse
  | startSync => exact sync (hc.resolve_left nofun)
  | startAsync p => exact async p (hc.resolve_left nofun)

/-- Beginning a stop sequence. -/
theorem inv_stopBegin {after : AfterStop} (h : Inv s)
    (hc : after = .parse ∨ s.ctl = .ready) : Inv (stopBegin after s) := by
  rcases stopBegin_cases after s with ⟨hr, e⟩ | ⟨hr, e⟩ <;> rw [e]
  · exact
      { h with
        stop_stopping := fun _ => ⟨after, rfl⟩
        stopping_waits := fun _ _ => ⟨rfl, hr⟩
        parse_partial := nofun
        probe_waits := nofun }
  · exact inv_stopComplete (s := { s with seq := .stopping after }) (inv_halted (s := s) h) hr hc

theorem inv_restart {after : AfterStop} {start : State → State} (h : Inv s) (hc : s.ctl = .ready)
    (hstart : running s = false → Inv (start s)) :
    Inv (restart after start s) := by
  unfold restart
  split
  · exact inv_stopBegin h (.inr hc)
  · next hr => exact hstart (by simpa using hr)

/-- An agent exits on a stop request, and the stop sequence completes once neither runs. -/
theorem inv_agentExit (d a : Bool) (h : Inv s) (hq : s.stopReq = true)
    (ha : a = true → s.asyncActive = true) :
    Inv (stopCheck { s with decActive := d, asyncActive := a }) := by
  obtain ⟨after, hs⟩ := h.stop_stopping hq
  have was_running : running s = true := (h.stopping_waits after hs).2
  have hc : s.ctl = .ready := h.running_ready was_running
  cases hr : running { s with decActive := d, asyncActive := a }
  · rw [stopCheck_exited (s := { s with decActive := d, asyncActive := a }) hs hr]
    exact inv_stopComplete (inv_halted (s := s) h) hr (.inr hc)
  · have mode_ne : s.mode ≠ .none := fun e => absurd (was_running.symm.trans (h.mode_none.1 e)) nofun
    rw [stopCheck_waiting hr]
    exact
      { h with
        dec_ready := fun _ => hc
        async_ready := fun _ => hc
        async_mode := fun e => h.async_mode (ha e)
        mode_none := iff_of_false mode_ne (by simp [hr])
        stopping_waits := fun _ _ => ⟨hq, hr⟩
        buffer_zero := fun e => absurd (hr.symm.trans e) nofun }

theorem inv_takeTick (h : Inv s) : Inv (takeTick s) := by
  rcases takeTick_cases s with ⟨_, e⟩ | ⟨_, hq, e⟩ | ⟨_, _, e⟩ <;> rw [e]
  · exact h
  · exact inv_agentExit s.decActive false h hq nofun
  · exact inv_emitPush (s := { s with periodL := s.period }) { h with }

theorem inv_takeReset (h : Inv s) : Inv (takeReset s) := inv_reset h.cfg_legal _ _

/-! ### Commands keep the invariant -/

theorem inv_onPort {f : State → State} (h : Inv s) (hf : s.seq = .none → Inv (f s)) :
    Inv (onPort f s) := by
  rcases onPort_cases f s with ⟨_, e⟩ | ⟨hs, e⟩ <;> rw [e]
  · exact h
  · exact hf hs

theorem inv_guarded {f : State → State} (h : Inv s) (hf : s.seq = .none → s.ctl = .ready → Inv (f s)) :
    Inv (guarded f s) := by
  rcases guarded_cases f s with ⟨_, e⟩ | ⟨_, _, e⟩ | ⟨hs, hc, e⟩ <;> rw [e]
  · exact h
  · exact inv_refuse h
  · exact hf hs hc

/-- The smoothing coefficient is at most 1, that is 2^31 (R175). -/
theorem alphaOf_le (fsHz : Nat) (c : Word16) : (alphaOf fsHz c).toNat ≤ 2 ^ 31 := by
  unfold alphaOf
  split
  · decide
  · have hle : ∀ n d : Nat, 2 ^ 31 * n / (n + d) ≤ 2 ^ 31 := fun n d =>
      Nat.div_le_of_le_mul (by rw [Nat.mul_comm]; exact Nat.mul_le_mul_right _ (Nat.le_add_right n d))
    rw [BitVec.toNat_ofNat]
    exact (Nat.mod_le _ _).trans (hle _ _)

theorem inv_setFilter (c : Word16) (h : Inv s) :
    Inv { s with cutoff := c, alpha := alphaOf s.cfg.fsHz c } :=
  { h with alpha_le := alphaOf_le _ _ }

theorem inv_startProbe (h : Inv s) (hs : s.seq = .none) : Inv { s with seq := .probe, probeN := 0 } :=
  { h with
    stop_stopping := fun e => absurd ((h.stopReq_idle hs).symm.trans e) nofun
    stopping_waits := nofun
    parse_partial := nofun
    probeN_le := Nat.zero_le _
    probe_waits := fun _ => by
      obtain ⟨_, _, _, hn⟩ := h.cfg_legal
      exact Nat.lt_of_lt_of_le Nat.two_pos hn }

theorem inv_illegalCommand (h : Inv s) : Inv (illegalCommand s) := inv_onPort h fun _ => inv_refuse h

/-! ### Frames keep the invariant -/

theorem inv_sequenceBreak (h : Inv s) : Inv (sequenceBreak s) := { h with }

theorem inv_storeRaw (a : Axis) (p : Word16) (h : Inv s) : Inv (storeRaw a p s) := { h with }

theorem inv_completeRevolution (h : Inv s) (hd : s.decActive = true) : Inv (completeRevolution s) := by
  obtain ⟨dec, fil, off, shared, e⟩ := completeRevolution_keeps s
  rw [e]
  exact { h with buffer_zero := fun hr => absurd ((running_of_decActive hd).symm.trans hr) nofun }

/-- The loop top goes on, or the decode agent exits on the request it observes (R221). -/
theorem inv_loopTop (h : Inv s) : Inv (loopTop s) := by
  have latched : Inv { s with alphaL := s.alpha } := { h with alphaL_le := h.alpha_le }
  cases ho : observesStop s
  · rw [loopTop_goesOn ho]
    exact latched
  · rw [loopTop_exits ho]
    have hq : s.stopReq = true := (Bool.and_eq_true_iff.1 ho).1
    exact inv_agentExit false s.asyncActive latched hq id

/-- A stored byte that is not the last one leaves the parse in progress. -/
theorem inv_storeByte {a v : Byte} (h : Inv s) (hp : s.seq = .parse) (hn : s.calCount + 1 ≠ 256) :
    Inv (storeByte a v s) := by
  obtain ⟨hc, hlt⟩ := h.parse_partial hp
  have still_lt : s.calCount + 1 < 256 := Nat.lt_of_le_of_ne hlt hn
  exact
    { h with
      img_wf := Memory.write_wf h.img_wf a.isLt
      parse_partial := fun _ => ⟨hc, still_lt⟩
      calCount_le := still_lt.le
      coef_extracted := fun e => absurd (hc.symm.trans e) nofun
      fs_extracted := fun e => absurd (hc.symm.trans e) nofun }

/-- The last byte fills the tables from the image that then stands (R204 to R206). -/
theorem inv_completeParse {a v : Byte} (h : Inv s) (hp : s.seq = .parse) (hn : s.calCount + 1 = 256) :
    Inv (completeParse (storeByte a v s)) := by
  have no_request : s.stopReq = false := h.stopReq_false (by simp [hp])
  exact
    { h with
      img_wf := Memory.write_wf h.img_wf a.isLt
      dec_ready := fun _ => rfl
      async_ready := fun _ => rfl
      stop_stopping := fun e => absurd (no_request.symm.trans e) nofun
      stopping_waits := nofun
      parse_partial := nofun
      calCount_le := hn.le
      probe_waits := nofun
      coef_extracted := fun _ i j => by simp
      fs_extracted := fun _ i => by simp }

theorem inv_parseByte (a v : Byte) (h : Inv s) (hp : s.seq = .parse) : Inv (parseByte a v s) := by
  rcases parseByte_cases a v s with ⟨_, e⟩ | ⟨_, hn, e⟩ | ⟨_, hn, e⟩ <;> rw [e]
  · exact h
  · exact inv_storeByte h hp hn
  · exact inv_completeParse h hp hn

end

/-- What the parser does with a frame: it discards it or takes its byte (R201, R202). -/
inductive ParserRule : (State → State) → Prop
  | discard : ParserRule id
  | byte (a v : Byte) : ParserRule (parseByte a v)

/-- What the decode loop does with a frame before its loop top (R222, R232, R233). -/
inductive LoopRule : (State → State) → Prop
  | breaks : LoopRule sequenceBreak
  | stores (a b : Axis) (p : Word16) : LoopRule (loopAxis a b p)
  | completes (p : Word16) : LoopRule (loopMomentZ p)

/-- Every frame row is a parser rule and a loop rule, each in its context (R220). -/
theorem exec_frame_rules {i : Instr} (h : ∃ f, encode i = .frame f) :
    ∃ parser loop, ParserRule parser ∧ LoopRule loop ∧ ∀ s, exec i s = .next (inContext parser loop s) := by
  obtain ⟨f, h⟩ := h
  cases i
  case voltage p => exact ⟨_, _, .discard, .breaks, exec_voltage p⟩
  case forceX p => exact ⟨_, _, .discard, .stores _ _ p, exec_forceX p⟩
  case forceY p => exact ⟨_, _, .discard, .stores _ _ p, exec_forceY p⟩
  case forceZ p => exact ⟨_, _, .discard, .stores _ _ p, exec_forceZ p⟩
  case momentX p => exact ⟨_, _, .discard, .stores _ _ p, exec_momentX p⟩
  case momentY p => exact ⟨_, _, .discard, .stores _ _ p, exec_momentY p⟩
  case momentZ p => exact ⟨_, _, .discard, .completes p, exec_momentZ p⟩
  case calibration a v => exact ⟨_, _, .byte a v, .breaks, exec_calibration a v⟩
  case reserved ch p => exact ⟨_, _, .discard, .breaks, exec_reserved ch p⟩
  all_goals cases h

theorem ParserRule.inv {parser : State → State} (hp : ParserRule parser) {s : State} (h : Inv s)
    (hs : s.seq = .parse) : Inv (parser s) := by
  cases hp with
  | discard => exact h
  | byte a v => exact inv_parseByte a v h hs

theorem LoopRule.inv {loop : State → State} (hl : LoopRule loop) {s : State} (h : Inv s)
    (hd : s.decActive = true) : Inv (loop s) := by
  cases hl with
  | breaks => exact inv_sequenceBreak h
  | stores a b p =>
    rcases loopAxis_cases a b p s with ⟨_, e⟩ | ⟨_, e⟩ <;> rw [e]
    · exact { inv_storeRaw a p h with }
    · exact inv_sequenceBreak h
  | completes p =>
    rcases loopMomentZ_cases p s with ⟨_, e⟩ | ⟨_, e⟩ <;> rw [e]
    · exact inv_completeRevolution (inv_storeRaw .momentZ p h) hd
    · exact inv_sequenceBreak h

theorem inv_frame {i : Instr} (hi : ∃ f, encode i = .frame f) {s t : State} (h : Inv s)
    (ht : exec i s = .next t) : Inv t := by
  obtain ⟨parser, loop, hparser, hloop, e⟩ := exec_frame_rules hi
  rw [e] at ht
  cases ht
  rcases inContext_cases parser loop s with ⟨hs, e⟩ | ⟨_, hd, e⟩ | ⟨_, _, e⟩ <;> rw [e]
  · exact hparser.inv h hs
  · exact inv_loopTop (hloop.inv h hd)
  · exact h

/-! ### The line sample keeps the invariant -/

/-- The probe answers no later than at its N_PROBE-th sample (R143). -/
theorem inv_probeSample (c : Bool) {s : State} (h : Inv s) : Inv (probeSample c s) := by
  have answered : ∀ l o, s.seq = .probe →
      Inv { s with seq := .none, probeN := s.probeN + 1, probeLast := l, out := o } := fun _ _ hs =>
    { h with
      stop_stopping := fun e => absurd ((h.stopReq_false (by simp [hs])).symm.trans e) nofun
      stopping_waits := nofun
      parse_partial := nofun
      probeN_le := h.probe_waits hs
      probe_waits := nofun }
  rcases probeSample_cases c s with ⟨_, e⟩ | ⟨hs, _, _, e⟩ | ⟨hs, _, _, e⟩ | ⟨hs, _, hn, e⟩ <;> rw [e]
  · exact h
  · exact answered _ _ hs
  · exact answered _ _ hs
  · have hlt := h.probe_waits hs
    exact { h with probeN_le := hlt, probe_waits := fun _ => Nat.lt_of_le_of_ne hlt hn }

/-- While bits are shifted in, those not filled yet are 0 (R134, R136): the invariant's clause on the decoder. -/
def UnfilledClear (phase : Phase) (bit : Fin 20) (acc : Frame) : Prop :=
  phase = .fall ∨ phase = .rise → ∀ k : Nat, k ≤ bit.val → acc.getLsbD k = false

/-- The bit that an edge captures was the highest unfilled one. -/
theorem unfilledClear_capture {bit : Fin 20} {acc : Frame} (d : Bool) (hb : bit ≠ 0)
    (h : UnfilledClear .rise bit acc) : UnfilledClear .fall (bitBelow bit) (setFrameBit acc bit d) := by
  intro _ k hk
  have hpos : 0 < bit.val := Nat.pos_of_ne_zero fun e => hb (Fin.ext e)
  have hlt : k < bit.val := Nat.lt_of_le_sub_one hpos hk
  rw [getLsbD_setFrameBit acc bit d k (hlt.trans bit.isLt), if_neg hlt.ne]
  exact h (.inr rfl) k hlt.le

/-- A sample that completes no frame keeps the unfilled bits 0. -/
theorem decoderSample_unfilledClear (c d : Bool) {s : State} (h : UnfilledClear s.phase s.bit s.acc) :
    (∃ ph b a, UnfilledClear ph b a ∧
      decoderSample c d s = .next { s with phase := ph, bit := b, acc := a }) ∨
    decoderSample c d s = exec (decodeFrame (setFrameBit s.acc 0 d))
      { s with acc := setFrameBit s.acc 0 d, phase := .idle } := by
  unfold decoderSample
  split
  · refine .inl ?_
    split
    · exact ⟨.armed, _, _, nofun, rfl⟩
    · exact ⟨_, _, _, h, rfl⟩
  · refine .inl ?_
    split
    · split
      · exact ⟨_, _, _, h, rfl⟩
      · exact ⟨.pulse, _, _, nofun, rfl⟩
    · exact ⟨.idle, _, _, nofun, rfl⟩
  · refine .inl ?_
    split
    · split
      · exact ⟨.fall, _, _, fun _ _ _ => BitVec.getLsbD_zero, rfl⟩
      · exact ⟨_, _, _, h, rfl⟩
    · exact ⟨.idle, _, _, nofun, rfl⟩
  · next hp =>
    refine .inl ?_
    split
    · exact ⟨_, _, _, h, rfl⟩
    · exact ⟨.rise, _, _, fun _ => h (.inl hp), rfl⟩
  · next hp =>
    split
    · unfold captureBit
      split
      · next hb => exact .inr (by rw [hb, handleFrame_eq_exec])
      · next hb => exact .inl ⟨.fall, _, _, unfilledClear_capture d hb (hp ▸ h), rfl⟩
    · exact .inl ⟨_, _, _, h, rfl⟩

/-- Only the decoder's own clause speaks of its registers. -/
theorem inv_decoder {s : State} {ph : Phase} {b : Fin 20} {a : Frame} (h : Inv s)
    (hc : UnfilledClear ph b a) : Inv { s with phase := ph, bit := b, acc := a } :=
  { h with acc_clear := hc }

theorem inv_line {c d : Bool} {s t : State} (h : Inv s) (ht : exec (.line c d) s = .next t) : Inv t := by
  have probed : Inv (probeSample c s) := inv_probeSample c h
  change execLine c d s = .next t at ht
  cases hca : consumerActive s
  · rw [execLine_noConsumer hca] at ht
    cases ht
    exact probed
  · rw [execLine_consumer hca] at ht
    rcases decoderSample_unfilledClear c d probed.acc_clear with ⟨ph, b, a, hc, e⟩ | e <;> rw [e] at ht
    · cases ht
      exact inv_decoder probed hc
    · exact inv_frame (encode_decodeFrame_isFrame _) (inv_decoder (ph := .idle) probed nofun) ht

/-! ### Every instruction and every event keeps the invariant -/

theorem inv_exec {i : Instr} {s t : State} (h : Inv s) (ht : exec i s = .next t) : Inv t := by
  cases i
  case line c d => exact inv_line h ht
  case initializeCmd a => cases ht; exact inv_onPort h fun hs => inv_stopBegin h (.inl rfl)
  case setFilter u c => cases ht; exact inv_guarded h fun _ _ => inv_emitResp (inv_setFilter c h)
  case calibrate a =>
    cases ht
    exact inv_guarded h fun _ _ => inv_emitResp (s := requestZero s) { h with }
  case startSync a =>
    cases ht
    exact inv_guarded h fun hs hc => inv_restart h hc fun hr => inv_finishStartSync h hs hr hc
  case startAsync p =>
    cases ht
    exact inv_guarded h fun hs hc => inv_restart h hc fun hr => inv_finishStartAsync p h hs hr hc
  case stop a => cases ht; exact inv_guarded h fun hs hc => inv_stopBegin h (.inr hc)
  case acquire a =>
    cases ht
    refine inv_guarded h fun _ _ => ?_
    split
    · exact inv_emitResp h
    · exact inv_refuse h
  case getFullScales a => cases ht; exact inv_guarded h fun _ _ => inv_emitResp h
  case getState a => cases ht; exact inv_onPort h fun _ => inv_emitResp h
  case isConnected a => cases ht; exact inv_onPort h fun hs => inv_startProbe h hs
  all_goals exact inv_frame ⟨_, rfl⟩ h ht

theorem inv_runPacket {p : Packet} {s t : State} (h : Inv s) (ht : runPacket p s = .next t) : Inv t := by
  cases hd : decode p with
  | ok i =>
    rw [runPacket_ok hd] at ht
    exact inv_exec h ht
  | error e =>
    rw [runPacket_error hd] at ht
    cases ht
    exact inv_illegalCommand h

theorem inv_runEvent {e : Event} {s t : State} (h : Inv s) (ht : runEvent e s = .next t) : Inv t := by
  cases e with
  | line w => exact inv_runPacket (p := .line w) h ht
  | command w => exact inv_runPacket (p := .command w) h ht
  | tick => cases ht; exact inv_takeTick h
  | reset => cases ht; exact inv_takeReset h

/-- Settles O54: the invariant does not speak of the queue, and every event keeps it. -/
theorem everyStepKeepsTheInvariant : Obligations.EveryStepKeepsTheInvariant := by
  intro s t h ht
  rcases step_cases ht with ⟨_, rfl⟩ | ⟨e, rest, _, hr⟩
  · exact h
  · exact inv_runEvent (s := { s with input := rest }) { h with } hr

end Sys2Proof.Machine
end

section
/-!
Who writes ALPHA and CUTOFF (R31, R32): every operation but SET_FILTER and Reset keeps both.
-/

namespace Sys2Proof.Machine

/-- ALPHA and CUTOFF are as they were. -/
structure FilterKept (s t : State) : Prop where
  alpha : t.alpha = s.alpha
  cutoff : t.cutoff = s.cutoff

theorem FilterKept.refl (s : State) : FilterKept s s := ⟨rfl, rfl⟩

theorem FilterKept.after {s t u : State} (h : FilterKept t u) (h' : FilterKept s t) : FilterKept s u :=
  ⟨h.alpha.trans h'.alpha, h.cutoff.trans h'.cutoff⟩

theorem stopComplete_filterKept (after : AfterStop) (s : State) : FilterKept s (stopComplete after s) := by
  cases after <;> exact ⟨rfl, rfl⟩

theorem stopCheck_filterKept (s : State) : FilterKept s (stopCheck s) := by
  rcases stopCheck_cases s with e | ⟨after, _, _, e⟩ <;> rw [e]
  · exact .refl s
  · exact stopComplete_filterKept after s

theorem stopBegin_filterKept (after : AfterStop) (s : State) : FilterKept s (stopBegin after s) :=
  (stopCheck_filterKept { requestStop s with seq := .stopping after }).after ⟨rfl, rfl⟩

theorem restart_filterKept {after : AfterStop} {start : State → State} {s : State}
    (h : FilterKept s (start s)) : FilterKept s (restart after start s) := by
  unfold restart
  split
  · exact stopBegin_filterKept after s
  · exact h

theorem takeTick_filterKept (s : State) : FilterKept s (takeTick s) := by
  rcases takeTick_cases s with ⟨_, e⟩ | ⟨_, _, e⟩ | ⟨_, _, e⟩ <;> rw [e]
  · exact .refl s
  · exact (stopCheck_filterKept _).after ⟨rfl, rfl⟩
  · exact ⟨rfl, rfl⟩

theorem onPort_filterKept {f : State → State} {s : State} (h : FilterKept s (f s)) :
    FilterKept s (onPort f s) := by
  rcases onPort_cases f s with ⟨_, e⟩ | ⟨_, e⟩ <;> rw [e]
  · exact .refl s
  · exact h

theorem guarded_filterKept {f : State → State} {s : State} (h : FilterKept s (f s)) :
    FilterKept s (guarded f s) := by
  rcases guarded_cases f s with ⟨_, e⟩ | ⟨_, _, e⟩ | ⟨_, _, e⟩ <;> rw [e]
  · exact .refl s
  · exact ⟨rfl, rfl⟩
  · exact h

theorem loopTop_filterKept (s : State) : FilterKept s (loopTop s) := by
  rcases loopTop_cases s with ⟨_, e⟩ | ⟨_, e, _⟩ | ⟨_, _, after, _, e⟩ <;> rw [e]
  · exact ⟨rfl, rfl⟩
  · exact ⟨rfl, rfl⟩
  · exact (stopComplete_filterKept after _).after ⟨rfl, rfl⟩

theorem ParserRule.filterKept {parser : State → State} (hp : ParserRule parser) (s : State) :
    FilterKept s (parser s) := by
  cases hp with
  | discard => exact .refl s
  | byte a v =>
    rcases parseByte_cases a v s with ⟨_, e⟩ | ⟨_, _, e⟩ | ⟨_, _, e⟩ <;> rw [e] <;> exact ⟨rfl, rfl⟩

theorem LoopRule.filterKept {loop : State → State} (hl : LoopRule loop) (s : State) :
    FilterKept s (loop s) := by
  cases hl with
  | breaks => exact ⟨rfl, rfl⟩
  | stores a b p => rcases loopAxis_cases a b p s with ⟨_, e⟩ | ⟨_, e⟩ <;> rw [e] <;> exact ⟨rfl, rfl⟩
  | completes p =>
    rcases loopMomentZ_cases p s with ⟨_, e⟩ | ⟨_, e⟩ <;> rw [e]
    · obtain ⟨dec, fil, off, shared, e⟩ := completeRevolution_keeps (storeRaw .momentZ p s)
      rw [e]
      exact ⟨rfl, rfl⟩
    · exact ⟨rfl, rfl⟩

theorem frame_filterKept {i : Instr} (hi : ∃ f, encode i = .frame f) {s t : State}
    (h : exec i s = .next t) : FilterKept s t := by
  obtain ⟨parser, loop, hparser, hloop, e⟩ := exec_frame_rules hi
  rw [e] at h
  cases h
  rcases inContext_cases parser loop s with ⟨_, e⟩ | ⟨_, _, e⟩ | ⟨_, _, e⟩ <;> rw [e]
  · exact hparser.filterKept s
  · exact (loopTop_filterKept _).after (hloop.filterKept s)
  · exact .refl s

theorem probeSample_filterKept (c : Bool) (s : State) : FilterKept s (probeSample c s) := by
  obtain ⟨q, n, l, o, e⟩ := probeSample_keeps c s
  rw [e]
  exact ⟨rfl, rfl⟩

theorem line_filterKept {c d : Bool} {s t : State} (h : exec (.line c d) s = .next t) :
    FilterKept s t := by
  change execLine c d s = .next t at h
  refine FilterKept.after ?_ (probeSample_filterKept c s)
  rcases execLine_cases c d s with ⟨ph, b, a, e⟩ | ⟨_, _, _, _, e⟩ <;> rw [e] at h
  · cases h
    exact ⟨rfl, rfl⟩
  · exact (frame_filterKept (encode_decodeFrame_isFrame _) h).after ⟨rfl, rfl⟩

/-- Every instruction but SET_FILTER keeps ALPHA and CUTOFF. -/
theorem exec_filterKept {i : Instr} (hi : ∀ u c, i ≠ .setFilter u c) {s t : State}
    (h : exec i s = .next t) : FilterKept s t := by
  cases i
  case line c d => exact line_filterKept h
  case setFilter u c => exact absurd rfl (hi u c)
  case initializeCmd a => cases h; exact onPort_filterKept (stopBegin_filterKept .parse s)
  case calibrate a => cases h; exact guarded_filterKept ⟨rfl, rfl⟩
  case startSync a => cases h; exact guarded_filterKept (restart_filterKept ⟨rfl, rfl⟩)
  case startAsync p => cases h; exact guarded_filterKept (restart_filterKept ⟨rfl, rfl⟩)
  case stop a => cases h; exact guarded_filterKept (stopBegin_filterKept .done s)
  case acquire a =>
    cases h
    refine guarded_filterKept ?_
    split <;> exact ⟨rfl, rfl⟩
  case getFullScales a => cases h; exact guarded_filterKept ⟨rfl, rfl⟩
  case getState a => cases h; exact onPort_filterKept ⟨rfl, rfl⟩
  case isConnected a => cases h; exact onPort_filterKept ⟨rfl, rfl⟩
  all_goals exact frame_filterKept ⟨_, rfl⟩ h

/-- SET_FILTER keeps both, or is accepted in READY and writes its values (R263). -/
theorem setFilter_cases {u c : Word16} {s t : State} (h : exec (.setFilter u c) s = .next t) :
    FilterKept s t ∨
    (s.seq = .none ∧ s.ctl = .ready ∧ t.alpha = alphaOf s.cfg.fsHz c ∧ t.cutoff = c) := by
  cases h
  rcases guarded_cases (fun s => emitResp .ok [] { s with cutoff := c, alpha := alphaOf s.cfg.fsHz c }) s
    with ⟨_, e⟩ | ⟨_, _, e⟩ | ⟨hs, hc, e⟩ <;> rw [e]
  · exact .inl (.refl s)
  · exact .inl ⟨rfl, rfl⟩
  · exact .inr ⟨hs, hc, rfl, rfl⟩

/-- An event keeps ALPHA and CUTOFF unless it is Reset or a SET_FILTER. -/
theorem runEvent_filterKept {e : Event} {s t : State} (h : runEvent e s = .next t) :
    FilterKept s t ∨ e = .reset ∨
    ∃ w u c, e = .command w ∧ decodeCommand w = .ok (.setFilter u c) ∧
      exec (.setFilter u c) s = .next t := by
  cases e with
  | line w => exact .inl (line_filterKept h)
  | tick => cases h; exact .inl (takeTick_filterKept s)
  | reset => exact .inr (.inl rfl)
  | command w =>
    change runPacket (.command w) s = .next t at h
    cases hd : decode (.command w) with
    | error e =>
      rw [runPacket_error hd] at h
      cases h
      exact .inl (onPort_filterKept ⟨rfl, rfl⟩)
    | ok i =>
      rw [runPacket_ok hd] at h
      by_cases hi : ∃ u c, i = .setFilter u c
      · obtain ⟨u, c, rfl⟩ := hi
        exact .inr (.inr ⟨w, u, c, rfl, hd, h⟩)
      · exact .inl (exec_filterKept (fun u c e => hi ⟨u, c, e⟩) h)

/-- Settles O56: a step that changes one of them is no other event's, and SET_FILTER changes them only when accepted. -/
theorem onlySetFilterWritesAlpha : Obligations.OnlySetFilterWritesAlpha := by
  intro s t ht changed
  have not_kept : ¬ FilterKept s t := fun h => changed.elim (· h.alpha) (· h.cutoff)
  rcases step_cases ht with ⟨_, rfl⟩ | ⟨e, rest, hi, hr⟩
  · exact absurd (.refl t) not_kept
  · rcases runEvent_filterKept hr with ⟨ha, hc⟩ | rfl | ⟨w, u, c, rfl, hd, h⟩
    · exact absurd ⟨ha, hc⟩ not_kept
    · exact .inr ⟨rest, hi⟩
    · rcases setFilter_cases h with ⟨ha, hc⟩ | ⟨hs, hready, ha, hc⟩
      · exact absurd ⟨ha, hc⟩ not_kept
      · exact .inl ⟨w, rest, u, c, hi, hd, hs, hready, ha, hc⟩

end Sys2Proof.Machine
end

section
/-!
CUTOFF, PERIOD, the latched period and the mode change no step (R32, R33, R37). An operation ignores them when its
result, seen without them, depends only on the state seen without them; the operations that are built from such ones
by composition and by tests on other registers ignore them too.
-/

namespace Sys2Proof.Machine

/-! ### Operations that ignore the inert registers -/

/-- Seen without the inert registers, `f` does the same where they are cleared. -/
def IgnoresInert (f : State → State) : Prop := ∀ s, withoutInert (f s) = withoutInert (f (withoutInert s))

/-- A test that reads none of the inert registers. -/
def TestIgnoresInert (q : State → Prop) : Prop := ∀ s, q s ↔ q (withoutInert s)

theorem ignoresInert_id : IgnoresInert id := fun _ => rfl

theorem IgnoresInert.comp {f g : State → State} (hg : IgnoresInert g) (hf : IgnoresInert f) :
    IgnoresInert fun s => g (f s) := fun s => by
  rw [hg (f s), hf s, ← hg]

/-- A choice between two such operations, on a test that reads none of the inert registers. -/
theorem IgnoresInert.ite {q : State → Prop} [DecidablePred q] {f g : State → State}
    (hq : TestIgnoresInert q) (hf : IgnoresInert f) (hg : IgnoresInert g) :
    IgnoresInert fun s => if q s then f s else g s := fun s => by
  by_cases h : q s
  · simp only [if_pos h, if_pos ((hq s).1 h), hf s]
  · simp only [if_neg h, if_neg (mt (hq s).2 h), hg s]

theorem ignoresInert_refuse (st : Status) : IgnoresInert (refuse st) := fun _ => rfl

theorem ignoresInert_finishStartSync : IgnoresInert finishStartSync := fun _ => rfl

theorem ignoresInert_finishStartAsync (p : Word32) : IgnoresInert (finishStartAsync p) := fun _ => rfl

theorem ignoresInert_stopComplete (after : AfterStop) : IgnoresInert (stopComplete after) := by
  cases after <;> exact fun _ => rfl

theorem ignoresInert_stopCheck : IgnoresInert stopCheck := fun s => by
  rcases hs : s.seq with _ | after | _ | _
  case stopping =>
    cases hr : running s
    · rw [stopCheck_exited hs hr, stopCheck_exited (s := withoutInert s) hs hr]
      exact ignoresInert_stopComplete after s
    · rw [stopCheck_waiting hr, stopCheck_waiting (s := withoutInert s) hr]
      rfl
  all_goals
    rw [stopCheck_other (by simp [hs]), stopCheck_other (s := withoutInert s) (by simp [withoutInert, hs])]
    rfl

theorem ignoresInert_stopBegin (after : AfterStop) : IgnoresInert (stopBegin after) :=
  ignoresInert_stopCheck.comp (f := fun s => { requestStop s with seq := .stopping after }) fun _ => rfl

theorem ignoresInert_restart (after : AfterStop) {start : State → State} (h : IgnoresInert start) :
    IgnoresInert (restart after start) :=
  .ite (fun _ => Iff.rfl) (ignoresInert_stopBegin after) h

theorem ignoresInert_onPort {f : State → State} (h : IgnoresInert f) : IgnoresInert (onPort f) :=
  .ite (fun _ => Iff.rfl) h ignoresInert_id

theorem ignoresInert_guarded {f : State → State} (h : IgnoresInert f) : IgnoresInert (guarded f) := fun s => by
  rcases guarded_cases f s with ⟨hs, e⟩ | ⟨hs, hc, e⟩ | ⟨hs, hc, e⟩ <;> rw [e]
  · rw [guarded_busy (s := withoutInert s) hs]
    rfl
  · rw [guarded_uninitialized (s := withoutInert s) hs hc]
    rfl
  · rw [guarded_ready (s := withoutInert s) hs hc]
    exact h s

theorem ignoresInert_takeTick : IgnoresInert takeTick :=
  .ite (fun _ => Iff.rfl)
    (.ite (fun _ => Iff.rfl)
      (ignoresInert_stopCheck.comp (f := fun s => { s with asyncActive := false }) fun _ => rfl)
      fun _ => rfl)
    ignoresInert_id

theorem ignoresInert_loopTop : IgnoresInert loopTop :=
  .ite (fun _ => Iff.rfl)
    (ignoresInert_stopCheck.comp (f := fun s => { s with alphaL := s.alpha, decActive := false }) fun _ => rfl)
    fun _ => rfl

theorem ignoresInert_completeRevolution : IgnoresInert completeRevolution := fun s => by
  cases hz : s.zeroPending
  · rw [completeRevolution_publish hz, completeRevolution_publish (s := withoutInert s) hz]
    rfl
  · rw [completeRevolution_zero hz, completeRevolution_zero (s := withoutInert s) hz]
    rfl

theorem ignoresInert_parseByte (a v : Byte) : IgnoresInert (parseByte a v) :=
  .ite (fun _ => Iff.rfl)
    (.ite (q := fun s => (storeByte a v s).calCount = 256) (fun _ => Iff.rfl)
      (f := fun s => completeParse (storeByte a v s)) (fun _ => rfl) fun _ => rfl)
    ignoresInert_id

theorem ParserRule.ignoresInert {parser : State → State} (h : ParserRule parser) : IgnoresInert parser := by
  cases h with
  | discard => exact ignoresInert_id
  | byte a v => exact ignoresInert_parseByte a v

theorem LoopRule.ignoresInert {loop : State → State} (h : LoopRule loop) : IgnoresInert loop := by
  have breaks : IgnoresInert sequenceBreak := fun _ => rfl
  cases h with
  | breaks => exact breaks
  | stores a b p => exact .ite (fun _ => Iff.rfl) (fun _ => rfl) breaks
  | completes p =>
    exact .ite (fun _ => Iff.rfl)
      (ignoresInert_completeRevolution.comp (f := storeRaw .momentZ p) fun _ => rfl) breaks

theorem ignoresInert_inContext {parser loop : State → State} (hp : IgnoresInert parser)
    (hl : IgnoresInert loop) : IgnoresInert (inContext parser loop) :=
  .ite (fun _ => Iff.rfl) hp (.ite (fun _ => Iff.rfl) (ignoresInert_loopTop.comp hl) ignoresInert_id)

theorem ignoresInert_probeSample (c : Bool) : IgnoresInert (probeSample c) :=
  .ite (q := fun s => s.seq = .probe) (fun _ => Iff.rfl)
    (.ite (q := fun s => 1 < s.probeN + 1 ∧ c ≠ s.probeLast) (fun _ => Iff.rfl) (fun _ => rfl)
      (.ite (q := fun s => s.probeN + 1 = s.cfg.nProbe) (fun _ => Iff.rfl) (fun _ => rfl) fun _ => rfl))
    ignoresInert_id

/-! ### Meanings that ignore the inert registers -/

/-- Both answers are next states, equal but for the inert registers. -/
def SameButInert (r r' : Result) : Prop :=
  ∃ t t', r = .next t ∧ r' = .next t' ∧ withoutInert t = withoutInert t'

/-- The meaning `f` answers the same where the inert registers are cleared, but for these registers. -/
def MeaningIgnoresInert (f : State → Result) : Prop := ∀ s, SameButInert (f s) (f (withoutInert s))

theorem SameButInert.symm {r r' : Result} (h : SameButInert r r') : SameButInert r' r :=
  let ⟨t, t', e, e', ht⟩ := h
  ⟨t', t, e', e, ht.symm⟩

theorem SameButInert.trans {r r' r'' : Result} (h : SameButInert r r') (h' : SameButInert r' r'') :
    SameButInert r r'' := by
  obtain ⟨t, t', e, e', ht⟩ := h
  obtain ⟨u, u', f, f', hu⟩ := h'
  obtain rfl : t' = u := by simpa using e'.symm.trans f
  exact ⟨t, u', e, f', ht.trans hu⟩

/-- A meaning that ignores the inert registers answers the same from states that differ in nothing else. -/
theorem MeaningIgnoresInert.same {f : State → Result} (h : MeaningIgnoresInert f) {s s' : State}
    (hs : withoutInert s = withoutInert s') : SameButInert (f s) (f s') :=
  (h s).trans (hs ▸ (h s').symm)

theorem IgnoresInert.next {f : State → State} (h : IgnoresInert f) :
    MeaningIgnoresInert fun s => .next (f s) := fun s => ⟨_, _, rfl, rfl, h s⟩

theorem meaning_frame {i : Instr} (hi : ∃ f, encode i = .frame f) : MeaningIgnoresInert (exec i) := by
  obtain ⟨parser, loop, hparser, hloop, e⟩ := exec_frame_rules hi
  rw [funext e]
  exact (ignoresInert_inContext hparser.ignoresInert hloop.ignoresInert).next

/-- The frame that an edge completes is read from the accumulator alone. -/
theorem meaning_captureBit (d : Bool) : MeaningIgnoresInert (captureBit d) := fun s => by
  by_cases hb : s.bit = 0
  · have completes : ∀ u : State, u.bit = 0 → captureBit d u = exec (decodeFrame (setFrameBit u.acc u.bit d))
        { u with acc := setFrameBit u.acc u.bit d, phase := .idle } := fun u hu => by
      rw [captureBit, if_pos hu, handleFrame_eq_exec]
    rw [completes s hb, completes (withoutInert s) hb]
    exact meaning_frame (encode_decodeFrame_isFrame _) { s with acc := _, phase := .idle }
  · rw [captureBit, captureBit, if_neg hb, if_neg (show (withoutInert s).bit ≠ 0 from hb)]
    exact ⟨_, _, rfl, rfl, rfl⟩

theorem meaning_decoderSample (c d : Bool) : MeaningIgnoresInert (decoderSample c d) := fun s => by
  have hp : (withoutInert s).phase = s.phase := rfl
  unfold decoderSample
  rw [hp]
  cases s.phase with
  | rise =>
    cases c
    · exact ⟨_, _, rfl, rfl, rfl⟩
    · exact meaning_captureBit d s
  | idle => cases c <;> cases d <;> exact ⟨_, _, rfl, rfl, rfl⟩
  | armed => cases c <;> cases d <;> exact ⟨_, _, rfl, rfl, rfl⟩
  | pulse => cases c <;> cases d <;> exact ⟨_, _, rfl, rfl, rfl⟩
  | fall => cases c <;> exact ⟨_, _, rfl, rfl, rfl⟩

theorem meaning_line (c d : Bool) : MeaningIgnoresInert (exec (.line c d)) := fun s => by
  change SameButInert (execLine c d s) (execLine c d (withoutInert s))
  have probed := ignoresInert_probeSample c s
  cases h : consumerActive s
  · rw [execLine_noConsumer h, execLine_noConsumer (s := withoutInert s) h]
    exact ⟨_, _, rfl, rfl, probed⟩
  · rw [execLine_consumer h, execLine_consumer (s := withoutInert s) h]
    exact (meaning_decoderSample c d).same probed

theorem meaning_exec (i : Instr) : MeaningIgnoresInert (exec i) := by
  cases i
  case line c d => exact meaning_line c d
  case initializeCmd a => exact (ignoresInert_onPort (ignoresInert_stopBegin .parse)).next
  case setFilter u c => exact (ignoresInert_guarded fun _ => rfl).next
  case calibrate a => exact (ignoresInert_guarded fun _ => rfl).next
  case startSync a =>
    exact (ignoresInert_guarded (ignoresInert_restart _ ignoresInert_finishStartSync)).next
  case startAsync p =>
    exact (ignoresInert_guarded (ignoresInert_restart _ (ignoresInert_finishStartAsync p))).next
  case stop a => exact (ignoresInert_guarded (ignoresInert_stopBegin .done)).next
  case acquire a =>
    exact (ignoresInert_guarded (.ite (fun _ => Iff.rfl) (fun _ => rfl) (ignoresInert_refuse _))).next
  case getFullScales a => exact (ignoresInert_guarded fun _ => rfl).next
  case getState a => exact (ignoresInert_onPort fun _ => rfl).next
  case isConnected a => exact (ignoresInert_onPort fun _ => rfl).next
  all_goals exact meaning_frame ⟨_, rfl⟩

theorem meaning_runPacket (p : Packet) : MeaningIgnoresInert (runPacket p) := by
  cases hd : decode p with
  | ok i =>
    rw [funext (runPacket_ok hd)]
    exact meaning_exec i
  | error e =>
    rw [funext (runPacket_error hd)]
    exact (ignoresInert_onPort (ignoresInert_refuse _)).next

theorem meaning_runEvent (e : Event) : MeaningIgnoresInert (runEvent e) := by
  cases e with
  | line w => exact meaning_runPacket (.line w)
  | command w => exact meaning_runPacket (.command w)
  | tick => exact ignoresInert_takeTick.next
  | reset => exact IgnoresInert.next (f := takeReset) fun _ => rfl

theorem meaning_step : MeaningIgnoresInert step := fun s => by
  cases hi : s.input with
  | nil =>
    rw [step_idle hi, step_idle (s := withoutInert s) hi]
    exact ⟨_, _, rfl, rfl, rfl⟩
  | cons e rest =>
    rw [step_event hi, step_event (s := withoutInert s) hi]
    exact meaning_runEvent e { s with input := rest }

/-- Settles O59: the step ignores the inert registers, so states that differ in them alone step alike. -/
theorem inertRegistersChangeNoStep : Obligations.InertRegistersChangeNoStep :=
  fun _ _ h => meaning_step.same h

end Sys2Proof.Machine
end

section
/-!
Who writes the image (R41, R60) and how the revolution counter moves (R73, R237). Every operation but the parser's byte
and Reset keeps the image; every operation but the completion of a revolution keeps the counter or clears it.
-/

namespace Sys2Proof.Machine

/-! ### The two relations -/

/-- The image is as it was, and so is the counter unless it is cleared. -/
structure KeepsOrClears (s t : State) : Prop where
  img : t.img = s.img
  counter : t.counter = s.counter ∨ t.counter = 0

/-- The image is as it was, and the counter is as it was, one more, or cleared. -/
structure KeepsImage (s t : State) : Prop where
  img : t.img = s.img
  counter : t.counter = s.counter ∨ t.counter = s.counter + 1 ∨ t.counter = 0

theorem KeepsOrClears.refl (s : State) : KeepsOrClears s s := ⟨rfl, .inl rfl⟩

theorem KeepsOrClears.after {s t u : State} (h : KeepsOrClears t u) (hi : t.img = s.img)
    (hc : t.counter = s.counter) : KeepsOrClears s u :=
  ⟨h.img.trans hi, hc ▸ h.counter⟩

/-- A counted revolution may be followed by a clearing in the same step, when it ends a stop sequence (R221, R272). -/
theorem KeepsOrClears.after_loop {s t u : State} (h : KeepsOrClears t u) (h' : KeepsImage s t) :
    KeepsImage s u := by
  refine ⟨h.img.trans h'.img, ?_⟩
  rcases h.counter with e | e
  · rw [e]; exact h'.counter
  · exact .inr (.inr e)

theorem KeepsOrClears.keepsImage {s t : State} (h : KeepsOrClears s t) : KeepsImage s t :=
  h.after_loop ⟨rfl, .inl rfl⟩

/-! ### The stop sequence, the Tick and the commands -/

theorem stopComplete_clears (after : AfterStop) (s : State) : KeepsOrClears s (stopComplete after s) := by
  cases after <;> exact ⟨rfl, .inr rfl⟩

theorem stopCheck_keepsOrClears (s : State) : KeepsOrClears s (stopCheck s) := by
  rcases stopCheck_cases s with e | ⟨after, _, _, e⟩ <;> rw [e]
  · exact .refl s
  · exact stopComplete_clears after s

theorem stopBegin_keepsOrClears (after : AfterStop) (s : State) : KeepsOrClears s (stopBegin after s) :=
  (stopCheck_keepsOrClears _).after rfl rfl

theorem restart_keepsOrClears {after : AfterStop} {start : State → State} {s : State}
    (h : KeepsOrClears s (start s)) : KeepsOrClears s (restart after start s) := by
  rcases restart_cases after start s with ⟨_, e⟩ | ⟨_, e⟩ <;> rw [e]
  · exact ⟨rfl, .inl rfl⟩
  · exact h

theorem onPort_keepsOrClears {f : State → State} {s : State} (h : KeepsOrClears s (f s)) :
    KeepsOrClears s (onPort f s) := by
  rcases onPort_cases f s with ⟨_, e⟩ | ⟨_, e⟩ <;> rw [e]
  · exact .refl s
  · exact h

theorem guarded_keepsOrClears {f : State → State} {s : State} (h : KeepsOrClears s (f s)) :
    KeepsOrClears s (guarded f s) := by
  rcases guarded_cases f s with ⟨_, e⟩ | ⟨_, _, e⟩ | ⟨_, _, e⟩ <;> rw [e]
  · exact .refl s
  · exact ⟨rfl, .inl rfl⟩
  · exact h

theorem takeTick_keepsOrClears (s : State) : KeepsOrClears s (takeTick s) := by
  rcases takeTick_cases s with ⟨_, e⟩ | ⟨_, _, e⟩ | ⟨_, _, e⟩ <;> rw [e]
  · exact .refl s
  · exact (stopCheck_keepsOrClears _).after rfl rfl
  · exact ⟨rfl, .inl rfl⟩

theorem exec_command_keepsOrClears {i : Instr} (hi : ∃ w, encode i = .command w) {s t : State}
    (h : exec i s = .next t) : KeepsOrClears s t := by
  obtain ⟨w, hi⟩ := hi
  cases i
  case initializeCmd a => cases h; exact onPort_keepsOrClears (stopBegin_keepsOrClears .parse s)
  case setFilter u c => cases h; exact guarded_keepsOrClears ⟨rfl, .inl rfl⟩
  case calibrate a => cases h; exact guarded_keepsOrClears ⟨rfl, .inl rfl⟩
  case startSync a => cases h; exact guarded_keepsOrClears (restart_keepsOrClears ⟨rfl, .inl rfl⟩)
  case startAsync p => cases h; exact guarded_keepsOrClears (restart_keepsOrClears ⟨rfl, .inl rfl⟩)
  case stop a => cases h; exact guarded_keepsOrClears (stopBegin_keepsOrClears .done s)
  case acquire a =>
    cases h
    refine guarded_keepsOrClears ?_
    split <;> exact ⟨rfl, .inl rfl⟩
  case getFullScales a => cases h; exact guarded_keepsOrClears ⟨rfl, .inl rfl⟩
  case getState a => cases h; exact onPort_keepsOrClears ⟨rfl, .inl rfl⟩
  case isConnected a => cases h; exact onPort_keepsOrClears ⟨rfl, .inl rfl⟩
  all_goals cases hi

theorem encode_decodeCommand_isCommand {w : CommandWord} {i : Instr} (h : decodeCommand w = .ok i) :
    ∃ w', encode i = .command w' := by
  unfold decodeCommand at h
  split at h <;> cases h <;> exact ⟨_, rfl⟩

/-- A command word, legal or not, keeps the image and keeps or clears the counter. -/
theorem runCommand_keepsOrClears {w : CommandWord} {s t : State}
    (h : runPacket (.command w) s = .next t) : KeepsOrClears s t := by
  cases hd : decode (.command w) with
  | ok i =>
    rw [runPacket_ok hd] at h
    exact exec_command_keepsOrClears (encode_decodeCommand_isCommand hd) h
  | error e =>
    rw [runPacket_error hd] at h
    cases h
    exact onPort_keepsOrClears ⟨rfl, .inl rfl⟩

/-! ### Frames -/

theorem loopTop_keepsOrClears (s : State) : KeepsOrClears s (loopTop s) := by
  rcases loopTop_cases s with ⟨_, e⟩ | ⟨_, e, _⟩ | ⟨_, _, after, _, e⟩ <;> rw [e]
  · exact ⟨rfl, .inl rfl⟩
  · exact ⟨rfl, .inl rfl⟩
  · exact (stopComplete_clears after _).after rfl rfl

/-- Only the completion of a revolution counts (R237). -/
theorem LoopRule.keepsImage {loop : State → State} (hl : LoopRule loop) (s : State) :
    KeepsImage s (loop s) := by
  cases hl with
  | breaks => exact ⟨rfl, .inl rfl⟩
  | stores a b p =>
    rcases loopAxis_cases a b p s with ⟨_, e⟩ | ⟨_, e⟩ <;> rw [e] <;> exact ⟨rfl, .inl rfl⟩
  | completes p =>
    rcases loopMomentZ_cases p s with ⟨_, e⟩ | ⟨_, e⟩ <;> rw [e]
    · obtain ⟨dec, fil, off, shared, e⟩ := completeRevolution_keeps (storeRaw .momentZ p s)
      rw [e]
      exact ⟨rfl, .inr (.inl rfl)⟩
    · exact ⟨rfl, .inl rfl⟩

/-- The counter is as it was, and the image is as it was or holds the byte `v` at `a`. -/
structure MayStore (a v : Byte) (s t : State) : Prop where
  img : t.img = s.img ∨ t.img = s.img.write a.toNat v
  counter : t.counter = s.counter

theorem parseByte_mayStore (a v : Byte) (s : State) : MayStore a v s (parseByte a v s) := by
  rcases parseByte_cases a v s with ⟨_, e⟩ | ⟨_, _, e⟩ | ⟨_, _, e⟩ <;> rw [e]
  · exact ⟨.inl rfl, rfl⟩
  · exact ⟨.inr rfl, rfl⟩
  · exact ⟨.inr rfl, rfl⟩

/-- A frame that is not CALIBRATION has the one rule of the decode loop; the parser discards it (R201). -/
theorem exec_strayFrame_rule {i : Instr} (h : isStrayFrame i = true) :
    ∃ loop, LoopRule loop ∧ ∀ s, exec i s = .next (inContext id loop s) := by
  cases i
  case voltage p => exact ⟨_, .breaks, exec_voltage p⟩
  case forceX p => exact ⟨_, .stores _ _ p, exec_forceX p⟩
  case forceY p => exact ⟨_, .stores _ _ p, exec_forceY p⟩
  case forceZ p => exact ⟨_, .stores _ _ p, exec_forceZ p⟩
  case momentX p => exact ⟨_, .stores _ _ p, exec_momentX p⟩
  case momentY p => exact ⟨_, .stores _ _ p, exec_momentY p⟩
  case momentZ p => exact ⟨_, .completes p, exec_momentZ p⟩
  case reserved ch p => exact ⟨_, .breaks, exec_reserved ch p⟩
  all_goals cases h

/-- The channel code tells a CALIBRATION frame, with its address and value, from every other frame (R91, R94). -/
theorem decodeFrame_stray_or_calibration (f : Frame) :
    isStrayFrame (decodeFrame f) = true ∨
    (f.channel = 7 ∧ decodeFrame f = .calibration f.calAddress f.calValue) := by
  unfold decodeFrame
  split
  case h_8 h => exact .inr ⟨BitVec.eq_of_toNat_eq h, rfl⟩
  all_goals exact .inl rfl

/-- Outside a parse, no frame writes the image: what the parser would do with it does not matter. -/
theorem inContext_keepsImage {parser loop : State → State} (hl : LoopRule loop) {s : State}
    (hp : s.seq = .parse → KeepsImage s (parser s)) : KeepsImage s (inContext parser loop s) := by
  rcases inContext_cases parser loop s with ⟨hs, e⟩ | ⟨_, _, e⟩ | ⟨_, _, e⟩ <;> rw [e]
  · exact hp hs
  · exact (loopTop_keepsOrClears _).after_loop (hl.keepsImage s)
  · exact (KeepsOrClears.refl s).keepsImage

/-- A completed frame keeps the image, or is a CALIBRATION frame whose byte the parser may store. -/
theorem exec_decodeFrame_keepsImage_or_stores {f : Frame} {s t : State}
    (h : exec (decodeFrame f) s = .next t) :
    KeepsImage s t ∨ (s.seq = .parse ∧ f.channel = 7 ∧ MayStore f.calAddress f.calValue s t) := by
  rcases decodeFrame_stray_or_calibration f with hf | ⟨hch, hf⟩
  · obtain ⟨loop, hloop, e⟩ := exec_strayFrame_rule hf
    rw [e] at h
    cases h
    exact .inl (inContext_keepsImage hloop fun _ => (KeepsOrClears.refl s).keepsImage)
  · rw [hf, exec_calibration] at h
    cases h
    by_cases hs : s.seq = .parse
    · rw [inContext_parse hs]
      exact .inr ⟨hs, hch, parseByte_mayStore _ _ s⟩
    · exact .inl (inContext_keepsImage .breaks fun h => absurd h hs)

/-! ### The line sample -/

/-- The probe starts no parse. -/
theorem seq_parse_of_probeSample {c : Bool} {s : State} (h : (probeSample c s).seq = .parse) :
    s.seq = .parse := by
  rcases probeSample_cases c s with ⟨_, e⟩ | ⟨_, _, _, e⟩ | ⟨_, _, _, e⟩ | ⟨_, _, _, e⟩ <;> rw [e] at h
  · exact h
  · cases h
  · cases h
  · exact h

/-- The sample completes, during a parse, the CALIBRATION frame `f`, whose byte the parser may store. -/
structure CompletesCalibration (w : LineWord) (f : Frame) (s t : State) : Prop where
  clock : w.getLsbD 1 = true
  seq : s.seq = .parse
  phase : s.phase = .rise
  bit : s.bit = 0
  frame : f = setFrameBit s.acc 0 (w.getLsbD 0)
  channel : f.channel = 7
  stores : MayStore f.calAddress f.calValue s t

theorem runLine_keepsImage_or_stores {w : LineWord} {s t : State}
    (h : runPacket (.line w) s = .next t) :
    KeepsImage s t ∨ ∃ f, CompletesCalibration w f s t := by
  change execLine (w.getLsbD 1) (w.getLsbD 0) s = .next t at h
  obtain ⟨q, n, l, o, hprobe⟩ := probeSample_keeps (w.getLsbD 1) s
  have img_eq : (probeSample (w.getLsbD 1) s).img = s.img := by rw [hprobe]
  have counter_eq : (probeSample (w.getLsbD 1) s).counter = s.counter := by rw [hprobe]
  rcases execLine_cases (w.getLsbD 1) (w.getLsbD 0) s with ⟨ph, b, a, e⟩ | ⟨_, hphase, hbit, hc, e⟩ <;>
    rw [e] at h
  · cases h
    exact .inl ⟨img_eq, .inl counter_eq⟩
  · rcases exec_decodeFrame_keepsImage_or_stores h with ⟨himg, hcounter⟩ | ⟨hs, hch, himg, hcounter⟩
    · exact .inl ⟨himg.trans img_eq, counter_eq ▸ hcounter⟩
    · exact .inr ⟨_, hc, seq_parse_of_probeSample hs, hphase, hbit, rfl, hch,
        img_eq ▸ himg, hcounter.trans counter_eq⟩

/-! ### The step -/

/-- What one event does to the image and the counter. -/
theorem runEvent_image_counter {e : Event} {s t : State} (h : runEvent e s = .next t) :
    KeepsImage s t ∨ (e = .reset ∧ t = takeReset s) ∨
    ∃ w f, e = .line w ∧ CompletesCalibration w f s t := by
  cases e with
  | line w =>
    rcases runLine_keepsImage_or_stores h with hk | ⟨f, hf⟩
    · exact .inl hk
    · exact .inr (.inr ⟨w, f, rfl, hf⟩)
  | command w => exact .inl (runCommand_keepsOrClears h).keepsImage
  | tick => cases h; exact .inl (takeTick_keepsOrClears s).keepsImage
  | reset => cases h; exact .inr (.inl ⟨rfl, rfl⟩)

/-- Settles O57: an event that keeps the image changes no byte, and the byte stored by the parser reads back at its own
address and changes no other. -/
theorem onlyTheParserWritesTheImage : Obligations.OnlyTheParserWritesTheImage := by
  intro s t x hwf ht changed
  have not_kept : t.img ≠ s.img := fun e => changed (by rw [e])
  rcases step_cases ht with ⟨_, rfl⟩ | ⟨e, rest, hi, hr⟩
  · exact absurd rfl not_kept
  · rcases runEvent_image_counter hr with hk | ⟨rfl, _⟩ | ⟨w, f, rfl, hf⟩
    · exact absurd hk.img not_kept
    · exact .inr ⟨rest, hi⟩
    · have written : t.img = s.img.write f.calAddress.toNat f.calValue :=
        hf.stores.img.resolve_left not_kept
      have at_address : f.calAddress.toNat = x := by
        by_contra hx
        exact changed (by rw [written, Memory.read_write_other hwf (Ne.symm hx)])
      have reads : t.img.read x = f.calValue := by
        rw [written, ← at_address, Memory.read_write_same hwf]
      exact .inl ⟨w, rest, f, hi, hf.clock, hf.seq, hf.phase, hf.bit, hf.frame, hf.channel,
        at_address, reads⟩

/-- Settles O58: the counter moves as the events' cases say, and one more in 16 bits is one more modulo 65536. -/
theorem counterStepsByOneOrClears : Obligations.CounterStepsByOneOrClears := by
  intro s t ht
  rcases step_cases ht with ⟨_, rfl⟩ | ⟨e, rest, _, hr⟩
  · exact .inl rfl
  · rcases runEvent_image_counter hr with hk | ⟨_, rfl⟩ | ⟨w, f, _, hf⟩
    · rcases hk.counter with e | e | e
      · exact .inl e
      · exact .inr (.inl (by rw [e]; exact BitVec.toNat_add _ _))
      · exact .inr (.inr e)
    · exact .inr (.inr rfl)
    · exact .inl hf.stores.counter

end Sys2Proof.Machine
end

section
/-!
The encodings (R90 to R106): what each field of a frame or a command word reads after it was written, each decoder as
the two-sided inverse of the encoder on its own format, the illegal ops, and the layout of the response word.
-/

namespace Sys2Proof

/-! ### Fields of a frame (R90, R94) -/

@[simp] theorem channel_frameOf (ch : BitVec 4) (p : Word16) : (frameOf ch p).channel = ch :=
  BitVec.extractLsb'_append_eq_left

@[simp] theorem payload_frameOf (ch : BitVec 4) (p : Word16) : (frameOf ch p).payload = p :=
  BitVec.extractLsb'_append_eq_right

/-- A field of the low part of a word is that field of the word. -/
theorem extract_lowPart {n m start len : Nat} (h : start + len ≤ m) (x : BitVec n) :
    (x.extractLsb' 0 m).extractLsb' start len = x.extractLsb' start len := by
  refine BitVec.eq_of_getLsbD_eq fun k hk => ?_
  have inside : start + k < m := by omega
  simp [inside]

theorem calAddress_eq (f : Frame) : f.calAddress = f.payload.extractLsb' 8 8 :=
  (extract_lowPart (by decide) f).symm

theorem calValue_eq (f : Frame) : f.calValue = f.payload.extractLsb' 0 8 :=
  (extract_lowPart (by decide) f).symm

@[simp] theorem calAddress_frameOf (ch : BitVec 4) (a v : Byte) : (frameOf ch (a ++ v)).calAddress = a := by
  rw [calAddress_eq, payload_frameOf]
  exact BitVec.extractLsb'_append_eq_left

@[simp] theorem calValue_frameOf (ch : BitVec 4) (a v : Byte) : (frameOf ch (a ++ v)).calValue = v := by
  rw [calValue_eq, payload_frameOf]
  exact BitVec.extractLsb'_append_eq_right

theorem calAddress_append_calValue (f : Frame) : f.calAddress ++ f.calValue = f.payload := by
  rw [calAddress_eq, calValue_eq]
  exact BitVec.extractLsb'_append_extractLsb'

theorem frameOf_payload {f : Frame} {ch : BitVec 4} (h : f.channel.toNat = ch.toNat) :
    frameOf ch f.payload = f := by
  rw [← BitVec.eq_of_toNat_eq h]
  exact BitVec.extractLsb'_append_extractLsb'

/-! ### Fields of a command word (R99, R101) -/

@[simp] theorem op_commandOf (op : Byte) (arg : Word32) : (commandOf op arg).op = op :=
  BitVec.extractLsb'_append_eq_left

@[simp] theorem arg_commandOf (op : Byte) (arg : Word32) : (commandOf op arg).arg = arg :=
  BitVec.extractLsb'_append_eq_right

/-- The two halves that SET_FILTER reads are those of the argument. -/
theorem upperHalf_eq (w : CommandWord) : w.extractLsb' 16 16 = w.arg.extractLsb' 16 16 :=
  (extract_lowPart (by decide) w).symm

theorem lowerHalf_eq (w : CommandWord) : w.extractLsb' 0 16 = w.arg.extractLsb' 0 16 :=
  (extract_lowPart (by decide) w).symm

@[simp] theorem upperHalf_commandOf (op : Byte) (u c : Word16) :
    (commandOf op (u ++ c)).extractLsb' 16 16 = u := by
  rw [upperHalf_eq, arg_commandOf]
  exact BitVec.extractLsb'_append_eq_left

@[simp] theorem lowerHalf_commandOf (op : Byte) (u c : Word16) :
    (commandOf op (u ++ c)).extractLsb' 0 16 = c := by
  rw [lowerHalf_eq, arg_commandOf]
  exact BitVec.extractLsb'_append_eq_right

theorem halves_append (w : CommandWord) : w.extractLsb' 16 16 ++ w.extractLsb' 0 16 = w.arg := by
  rw [upperHalf_eq, lowerHalf_eq]
  exact BitVec.extractLsb'_append_extractLsb'

theorem commandOf_arg {w : CommandWord} {op : Byte} (h : w.op.toNat = op.toNat) :
    commandOf op w.arg = w := by
  rw [← BitVec.eq_of_toNat_eq h]
  exact BitVec.extractLsb'_append_extractLsb'

/-! ### Decoding what the encoder writes -/

/-- Channel codes 8 to 15 are those with the top bit set (R92). -/
theorem reservedChannel_iff (ch : BitVec 4) : ch.getLsbD 3 = true ↔ 8 ≤ ch.toNat := by
  revert ch
  decide

theorem decodeFrame_reserved {f : Frame} (h : 8 ≤ f.channel.toNat) :
    decodeFrame f = .reserved f.channel f.payload := by
  unfold decodeFrame
  split
  case h_9 => rfl
  all_goals omega

theorem decodeFrame_encode {i : Instr} {f : Frame} (hi : WellFormed i) (h : encode i = .frame f) :
    decodeFrame f = i := by
  cases i
  case reserved ch p =>
    cases h
    have hch : 8 ≤ (frameOf ch p).channel.toNat := by
      rw [channel_frameOf]
      exact (reservedChannel_iff ch).mp hi
    rw [decodeFrame_reserved hch, channel_frameOf, payload_frameOf]
  all_goals cases h
  all_goals simp [decodeFrame]

theorem decodeCommand_encode {i : Instr} {w : CommandWord} (h : encode i = .command w) :
    decodeCommand w = .ok i := by
  cases i
  all_goals cases h
  all_goals simp [decodeCommand]

theorem decodeLine_encode {i : Instr} {w : LineWord} (h : encode i = .line w) : decodeLine w = i := by
  cases i
  case line c d =>
    cases h
    cases c <;> cases d <;> rfl
  all_goals cases h

/-- Settles O1: each format's decoder reads back what the encoder writes in that format. -/
theorem decodeReadsBackEncode : Obligations.DecodeReadsBackEncode := by
  intro i hi
  cases h : encode i with
  | line w => exact congrArg Except.ok (decodeLine_encode h)
  | frame f => exact congrArg Except.ok (decodeFrame_encode hi h)
  | command w => exact decodeCommand_encode h

/-! ### Encoding what the decoder reads -/

theorem wellFormed_decodeFrame (f : Frame) : WellFormed (decodeFrame f) := by
  unfold decodeFrame
  split
  case h_9 =>
    refine (reservedChannel_iff f.channel).mpr ?_
    simp only [imp_false] at *
    omega
  all_goals rfl

theorem encode_decodeFrame (f : Frame) : encode (decodeFrame f) = .frame f := by
  unfold decodeFrame
  split
  case h_8 h =>
    rw [encode, calAddress_append_calValue]
    exact congrArg Packet.frame (frameOf_payload h)
  case h_9 => exact congrArg Packet.frame (frameOf_payload rfl)
  all_goals
    next h => exact congrArg Packet.frame (frameOf_payload h)

theorem wellFormed_decodeCommand {w : CommandWord} {i : Instr} (h : decodeCommand w = .ok i) :
    WellFormed i := by
  unfold decodeCommand at h
  split at h <;> cases h <;> rfl

theorem encode_decodeCommand {w : CommandWord} {i : Instr} (h : decodeCommand w = .ok i) :
    encode i = .command w := by
  unfold decodeCommand at h
  split at h
  case h_2 hop =>
    cases h
    rw [encode, halves_append]
    exact congrArg Packet.command (commandOf_arg hop)
  case h_11 => cases h
  all_goals
    next hop =>
      cases h
      exact congrArg Packet.command (commandOf_arg hop)

theorem encode_decodeLine (w : LineWord) : encode (decodeLine w) = .line w := by
  revert w
  decide

/-- Settles O2: in each format, what the decoder reads is well-formed and the encoder writes the same bits. -/
theorem encodeReadsBackDecode : Obligations.EncodeReadsBackDecode := by
  intro p i h
  cases p with
  | line w =>
    cases h
    exact ⟨rfl, encode_decodeLine w⟩
  | frame f =>
    cases h
    exact ⟨wellFormed_decodeFrame f, encode_decodeFrame f⟩
  | command w => exact ⟨wellFormed_decodeCommand h, encode_decodeCommand h⟩

/-- Settles O4: each word is the encoding of its instruction. -/
theorem writtenOutWordsDecode : Obligations.WrittenOutWordsDecode :=
  ⟨decodeFrame_encode rfl rfl, decodeFrame_encode rfl rfl, decodeFrame_encode rfl rfl,
    decodeFrame_encode rfl rfl, decodeFrame_encode rfl rfl, decodeFrame_encode rfl rfl,
    decodeFrame_encode rfl rfl, decodeCommand_encode rfl, decodeCommand_encode rfl,
    decodeCommand_encode rfl, decodeCommand_encode rfl, decodeLine_encode rfl⟩

end Sys2Proof

namespace Sys2Proof.Machine

/-! ### Ignored operands and illegal ops (R99, R106) -/

/-- Settles O5: the meanings of these rows are constant in the operands that the row ignores. -/
theorem ignoredBitsChangeNothing : Obligations.IgnoredBitsChangeNothing :=
  fun _ _ _ _ _ _ _ _ => ⟨rfl, rfl, rfl, rfl, rfl, rfl, rfl, rfl, rfl, rfl, rfl⟩

theorem decodeCommand_illegal_iff (w : CommandWord) :
    decodeCommand w = .error (.illegalCommand w.op) ↔ w.op = 0x00 ∨ 0x0B ≤ w.op.toNat := by
  have zero_iff : w.op = 0x00 ↔ w.op.toNat = 0 := BitVec.toNat_inj.symm
  rw [zero_iff]
  unfold decodeCommand
  split
  case h_11 =>
    refine iff_of_true rfl ?_
    simp only [imp_false] at *
    omega
  all_goals
    refine iff_of_false nofun ?_
    omega

theorem illegalCommand_idle {s : State} (h : s.seq = .none) :
    illegalCommand s = { s with out := s.out ++ [.resp .illegalCommand []] } := onPort_idle h

/-- Settles O3: the decoder rejects exactly these ops, and what it rejects is answered at the idle port. -/
theorem illegalCommandsAnswered : Obligations.IllegalCommandsAnswered := by
  refine fun w => ⟨decodeCommand_illegal_iff w, fun s rest hop hi hs => ?_⟩
  have rejected : decode (.command w) = .error (.illegalCommand w.op) :=
    (decodeCommand_illegal_iff w).mpr hop
  calc step s
    _ = runPacket (.command w) { s with input := rest } := step_event hi
    _ = .next (illegalCommand { s with input := rest }) := runPacket_error rejected _
    _ = .next { s with input := rest, out := s.out ++ [.resp .illegalCommand []] } :=
      congrArg Host.Outcome.next (illegalCommand_idle hs)

/-! ### The response word (R103, R104) -/

/-- A field above the last word of a concatenation is a field of what stands before that word. -/
theorem extract_above_word {n len start : Nat} (x : BitVec n) (y : Word16) :
    (x ++ y).extractLsb' (start + 16) len = x.extractLsb' start len := by
  rw [BitVec.extractLsb'_append_eq_of_le (Nat.le_add_left 16 start), Nat.add_sub_cancel]

theorem extract_last_word {n : Nat} (x : BitVec n) (y : Word16) : (x ++ y).extractLsb' 0 16 = y :=
  BitVec.extractLsb'_append_eq_right

theorem responseWord_status (st : Status) (ws : List Word16) :
    (responseWord st ws).extractLsb' 112 8 = st.code := by
  unfold responseWord
  iterate 7 refine (extract_above_word _ _).trans ?_
  exact BitVec.extractLsb'_eq_self

theorem responseWord_dataWord (st : Status) (ws : List Word16) {k : Nat} (hk : k < 7) :
    (responseWord st ws).extractLsb' (96 - 16 * k) 16 = dataWord ws k := by
  unfold responseWord
  interval_cases k
  all_goals
    repeat rw [extract_above_word]
    exact extract_last_word _ _

/-- Settles O6: the status and the data words are the fields of the concatenation, an absent word being 0. -/
theorem responseWordLayout : Obligations.ResponseWordLayout := by
  refine fun st ws => ⟨?_, fun k hk => responseWord_dataWord st ws hk⟩
  rw [responseWord_status]
  cases st <;> rfl

end Sys2Proof.Machine
end

section
/-!
Line samples as a run (R96, R130 to R142): what a sequence of samples does to the decoder while a consumer is active and
no probe looks at the line, rule by rule of the transition table R138, and, put together, the delivery of a frame.
-/

namespace Sys2Proof.Machine

/-! ### Runs of samples -/

/-- A run goes on from the state that its first step reaches. -/
theorem run_succ {s t : State} (h : step s = .next t) (n : Nat) :
    Host.Core.run core (n + 1) s = Host.Core.run core n t := by
  have stepped : core.step s = .next t := h
  simp only [Host.Core.run, stepped]

theorem run_one (s : State) : Host.Core.run core 1 s = step s := by
  obtain ⟨t, ht⟩ := step_next s
  rw [run_succ ht, ht]
  rfl

theorem step_sample {s : State} {c d : Bool} {rest : List Event}
    (h : s.input = sampleEvent (c, d) :: rest) : step s = exec (.line c d) { s with input := rest } := by
  have decoded : decode (encode (.line c d)) = .ok (.line c d) := decodeReadsBackEncode _ rfl
  rw [step_event h]
  exact runPacket_ok decoded _

/-- The samples `xs` take `s` to `t`, whatever samples follow them. -/
def Advances (xs : List (Bool × Bool)) (s t : State) : Prop :=
  ∀ ys, Host.Core.run core (xs ++ ys).length (withSamples (xs ++ ys) s) =
    Host.Core.run core ys.length (withSamples ys t)

theorem Advances.nil (s : State) : Advances [] s s := fun _ => rfl

theorem Advances.append {xs ys : List (Bool × Bool)} {s t u : State} (h : Advances xs s t)
    (h' : Advances ys t u) : Advances (xs ++ ys) s u := fun zs => by
  rw [List.append_assoc, h, h']

theorem Advances.cons {x : Bool × Bool} {xs : List (Bool × Bool)} {s t u : State}
    (h : Advances [x] s t) (h' : Advances xs t u) : Advances (x :: xs) s u := h.append h'

/-- Samples that each leave the state as it is leave it so together. -/
theorem Advances.stay {xs : List (Bool × Bool)} {s : State} (h : ∀ x ∈ xs, Advances [x] s s) :
    Advances xs s s := by
  induction xs with
  | nil => exact .nil s
  | cons x xs ih =>
    exact (h x List.mem_cons_self).cons (ih fun y hy => h y (List.mem_cons_of_mem x hy))

theorem Advances.stay_replicate {x : Bool × Bool} {s : State} (h : Advances [x] s s) (n : Nat) :
    Advances (List.replicate n x) s s :=
  .stay fun _ hy => List.eq_of_mem_replicate hy ▸ h

theorem Advances.stay_levels {c : Bool} {s : State} (h : ∀ d, Advances [(c, d)] s s) (ds : List Bool) :
    Advances (ds.map fun d => (c, d)) s s :=
  .stay fun _ hx => by
    obtain ⟨d, _, rfl⟩ := List.mem_map.mp hx
    exact h d

/-- A run over samples that end in `ys` ends as the run over `ys` does. -/
theorem Advances.run {xs ys : List (Bool × Bool)} {s t : State} (h : Advances xs s t) :
    Host.Core.run core (xs ++ ys).length (withSamples (xs ++ ys) s) =
      Host.Core.run core ys.length (withSamples ys t) := h ys

/-! ### Single samples while the decoder listens (R131 to R137) -/

/-- The frame decoder takes every sample, and the probe none. -/
structure Listening (s : State) : Prop where
  consumer : consumerActive s = true
  noProbe : s.seq ≠ .probe

/-- `s` with the frame decoder in phase `ph`, about to fill bit `b`, and with `a` accumulated. -/
def decoderAt (s : State) (ph : Phase) (b : Fin 20) (a : Frame) : State :=
  { s with phase := ph, bit := b, acc := a }

theorem Listening.decoderAt {s : State} (h : Listening s) (ph : Phase) (b : Fin 20) (a : Frame) :
    Listening (decoderAt s ph b a) := ⟨h.consumer, h.noProbe⟩

theorem Listening.withInput {s : State} (h : Listening s) (q : List Event) :
    Listening { s with input := q } := ⟨h.consumer, h.noProbe⟩

theorem Listening.exec_line {s : State} (h : Listening s) (c d : Bool) :
    exec (.line c d) s = decoderSample c d s := by
  have : exec (.line c d) s = decoderSample c d (probeSample c s) := execLine_consumer h.consumer
  rw [this, probeSample_other h.noProbe]

/-- A sample moves a listening decoder as its transition says; the waiting samples do not matter to it. -/
theorem Listening.advances {s t : State} (h : Listening s) {c d : Bool}
    (ht : ∀ q, decoderSample c d { s with input := q } = .next { t with input := q }) :
    Advances [(c, d)] s t := fun ys => by
  refine run_succ ?_ _
  rw [step_sample (c := c) (d := d) rfl]
  exact ((h.withInput _).exec_line c d).trans (ht _)

theorem run_sample {s : State} (h : Listening s) (c d : Bool) :
    Host.Core.run core [(c, d)].length (withSamples [(c, d)] s) = decoderSample c d { s with input := [] } := by
  have stepped : step (withSamples [(c, d)] s) = exec (.line c d) { s with input := [] } := step_sample rfl
  exact (run_one _).trans (stepped.trans ((h.withInput []).exec_line c d))

theorem captureBit_bitsLeft {s : State} (hb : s.bit ≠ 0) (d : Bool) :
    captureBit d s =
      .next { s with acc := setFrameBit s.acc s.bit d, bit := bitBelow s.bit, phase := .fall } := if_neg hb

theorem captureBit_lastBit {s : State} (hb : s.bit = 0) (d : Bool) :
    captureBit d s = exec (decodeFrame (setFrameBit s.acc s.bit d))
      { s with acc := setFrameBit s.acc s.bit d, phase := .idle } :=
  (if_pos hb).trans (handleFrame_eq_exec _ _)

section
variable {s : State} (h : Listening s) (b : Fin 20) (a : Frame)
include h

/-- R132, R133: both lines high arm the decoder, or leave it armed. -/
theorem advances_arm (hp : s.phase = .idle ∨ s.phase = .armed) :
    Advances [(true, true)] s (decoderAt s .armed s.bit s.acc) :=
  h.advances fun q => by
    unfold decoderSample
    rcases hp with hp | hp <;> simp [hp, decoderAt]

theorem advances_armed_high : Advances [(true, true)] (decoderAt s .armed b a) (decoderAt s .armed b a) :=
  (h.decoderAt _ _ _).advances fun _ => rfl

theorem advances_armed_low : Advances [(true, false)] (decoderAt s .armed b a) (decoderAt s .pulse b a) :=
  (h.decoderAt _ _ _).advances fun _ => rfl

theorem advances_pulse_low : Advances [(true, false)] (decoderAt s .pulse b a) (decoderAt s .pulse b a) :=
  (h.decoderAt _ _ _).advances fun _ => rfl

theorem advances_pulse_high : Advances [(true, true)] (decoderAt s .pulse b a) (decoderAt s .fall 19 0) :=
  (h.decoderAt _ _ _).advances fun _ => rfl

theorem advances_fall_high (d : Bool) :
    Advances [(true, d)] (decoderAt s .fall b a) (decoderAt s .fall b a) :=
  (h.decoderAt _ _ _).advances fun _ => rfl

theorem advances_fall_low (d : Bool) :
    Advances [(false, d)] (decoderAt s .fall b a) (decoderAt s .rise b a) :=
  (h.decoderAt _ _ _).advances fun _ => rfl

theorem advances_rise_low (d : Bool) :
    Advances [(false, d)] (decoderAt s .rise b a) (decoderAt s .rise b a) :=
  (h.decoderAt _ _ _).advances fun _ => rfl

/-- R136: a rising edge with bits left. -/
theorem advances_rise_high (hb : b ≠ 0) (d : Bool) :
    Advances [(true, d)] (decoderAt s .rise b a) (decoderAt s .fall (bitBelow b) (setFrameBit a b d)) :=
  (h.decoderAt _ _ _).advances fun q =>
    captureBit_bitsLeft (s := { decoderAt s .rise b a with input := q }) hb d

/-- R136, R137: the rising edge of bit 0 runs the completed frame. -/
theorem run_completingSample (d : Bool) :
    Host.Core.run core [(true, d)].length (withSamples [(true, d)] (decoderAt s .rise 0 a)) =
      exec (decodeFrame (setFrameBit a 0 d))
        { decoderAt s .idle 0 (setFrameBit a 0 d) with input := [] } := by
  have sampled := run_sample (h.decoderAt .rise 0 a) true d
  exact sampled.trans (captureBit_lastBit (s := { decoderAt s .rise 0 a with input := [] }) rfl d)

/-- The samples with the clock low before a rising edge, one or more of them. -/
theorem advances_clock_low (d : Bool) (ds : List Bool) :
    Advances ((d :: ds).map fun d => (false, d)) (decoderAt s .fall b a) (decoderAt s .rise b a) :=
  (advances_fall_low h b a d).cons (.stay_levels (advances_rise_low h b a) ds)

/-! ### The bits of a frame (R96, R136) -/

/-- The start of format L: idle samples, a start pulse and the rest put the decoder before bit 19. -/
theorem advances_start (hp : s.phase = .idle ∨ s.phase = .armed) (idle pulse rest : Nat) :
    Advances (List.replicate (idle + 1) (true, true) ++ List.replicate (pulse + 1) (true, false) ++
      List.replicate (rest + 1) (true, true)) s (decoderAt s .fall 19 0) := by
  have armed : Advances (List.replicate (idle + 1) (true, true)) s (decoderAt s .armed s.bit s.acc) :=
    (advances_arm h hp).cons (.stay_replicate (advances_armed_high h _ _) idle)
  have pulsed : Advances (List.replicate (pulse + 1) (true, false)) (decoderAt s .armed s.bit s.acc)
      (decoderAt s .pulse s.bit s.acc) :=
    (advances_armed_low h _ _).cons (.stay_replicate (advances_pulse_low h _ _) pulse)
  have started : Advances (List.replicate (rest + 1) (true, true)) (decoderAt s .pulse s.bit s.acc)
      (decoderAt s .fall 19 0) :=
    (advances_pulse_high h _ _).cons (.stay_replicate (advances_fall_high h _ _ true) rest)
  exact (armed.append pulsed).append started

end

/-- The bits of a frame from bit `n` up, the lower ones 0: what is accumulated once bit `n` is captured. -/
def bitsFrom (f : Frame) (n : Nat) : Frame := f >>> n <<< n

theorem getLsbD_bitsFrom (f : Frame) (n k : Nat) (hk : k < 20) :
    (bitsFrom f n).getLsbD k = (decide (n ≤ k) && f.getLsbD k) := by
  unfold bitsFrom
  by_cases h : n ≤ k
  · simp [h, hk, Nat.not_lt.mpr h]
  · simp [h, Nat.lt_of_not_le h]

@[simp] theorem bitsFrom_zero (f : Frame) : bitsFrom f 0 = f := by simp [bitsFrom]

@[simp] theorem bitsFrom_twenty (f : Frame) : bitsFrom f 20 = 0 := by
  refine BitVec.eq_of_getLsbD_eq fun k hk => ?_
  simp [getLsbD_bitsFrom f 20 k hk, Nat.not_le.mpr hk]

/-- Capturing bit `b` adds it to the bits above. -/
theorem setFrameBit_bitsFrom (f : Frame) (b : Fin 20) :
    setFrameBit (bitsFrom f (b.val + 1)) b (f.getLsbD b.val) = bitsFrom f b.val := by
  refine BitVec.eq_of_getLsbD_eq fun k hk => ?_
  rw [getLsbD_setFrameBit _ _ _ _ hk, getLsbD_bitsFrom _ _ _ hk, getLsbD_bitsFrom _ _ _ hk]
  by_cases h : k = b.val
  · simp [h]
  · have same : b.val + 1 ≤ k ↔ b.val ≤ k := by omega
    simp [h, same]

section
variable {s : State} (h : Listening s) (f : Frame)
include h

/-- A bit that is not the last, with its repeats, is captured, and the decoder waits for the bit below. -/
theorem advances_bit (n : Nat) (hn : n + 1 < 20) (sh : BitShape) :
    Advances (bitRise f (n + 1) sh ++ sh.high.map fun d => (true, d))
      (decoderAt s .fall ⟨n + 1, hn⟩ (bitsFrom f (n + 2)))
      (decoderAt s .fall ⟨n, Nat.lt_of_succ_lt hn⟩ (bitsFrom f (n + 1))) := by
  have captured : Advances [(true, f.getLsbD (n + 1))]
      (decoderAt s .rise ⟨n + 1, hn⟩ (bitsFrom f (n + 2)))
      (decoderAt s .fall ⟨n, Nat.lt_of_succ_lt hn⟩ (bitsFrom f (n + 1))) := by
    have edge := advances_rise_high h ⟨n + 1, hn⟩ (bitsFrom f (n + 2)) (by simp [Fin.ext_iff])
      (f.getLsbD (n + 1))
    rwa [setFrameBit_bitsFrom f ⟨n + 1, hn⟩] at edge
  exact ((advances_clock_low h _ _ sh.firstLow sh.low).append captured).append
    (.stay_levels (advances_fall_high h _ _) sh.high)

/-- Bit 0 completes the frame, which runs as the instruction it decodes to. -/
theorem run_lastBit (sh : BitShape) :
    Host.Core.run core (bitRise f 0 sh).length
        (withSamples (bitRise f 0 sh) (decoderAt s .fall 0 (bitsFrom f 1))) =
      exec (decodeFrame f) { decoderAt s .idle 0 f with input := [] } := by
  have captured : setFrameBit (bitsFrom f 1) 0 (f.getLsbD 0) = f :=
    (setFrameBit_bitsFrom f 0).trans (bitsFrom_zero f)
  have ran := (advances_clock_low h _ _ sh.firstLow sh.low).run.trans
    (run_completingSample h (bitsFrom f 1) (f.getLsbD 0))
  rwa [captured] at ran

/-- The samples of bits `n` to 0 deliver the frame whose upper bits are accumulated already. -/
theorem run_bitSamples (shape : Nat → BitShape) (n : Nat) (hn : n < 20) :
    Host.Core.run core (bitSamples f shape (n + 1)).length
        (withSamples (bitSamples f shape (n + 1)) (decoderAt s .fall ⟨n, hn⟩ (bitsFrom f (n + 1)))) =
      exec (decodeFrame f) { decoderAt s .idle 0 f with input := [] } := by
  induction n with
  | zero => simpa [bitSamples] using run_lastBit h f (shape 0)
  | succ n ih =>
    have unfolded : bitSamples f shape (n + 2) =
        (bitRise f (n + 1) (shape (n + 1)) ++ (shape (n + 1)).high.map fun d => (true, d)) ++
          bitSamples f shape (n + 1) := by
      rw [bitSamples, if_neg n.succ_ne_zero, List.append_assoc]
    rw [unfolded, (advances_bit h f n hn (shape (n + 1))).run]
    exact ih (Nat.lt_of_succ_lt hn)

/-- Format L delivers its frame (R96, R142). -/
theorem run_waveform (hp : s.phase = .idle ∨ s.phase = .armed) (idle pulse rest : Nat)
    (shape : Nat → BitShape) :
    Host.Core.run core (waveform idle pulse rest shape f).length
        (withSamples (waveform idle pulse rest shape f) s) =
      exec (decodeFrame f) { decoderAt s .idle 0 f with input := [] } := by
  have bits := run_bitSamples h f shape 19 (by decide)
  rw [bitsFrom_twenty] at bits
  exact (advances_start h hp idle pulse rest).run.trans bits

end

/-- Without repeats a bit takes two samples, one with the clock low and one with it high. -/
theorem length_bitSamples_shortest (f : Frame) (b : Bool) (n : Nat) :
    (bitSamples f (fun _ => ⟨b, [], []⟩) n).length = 2 * n := by
  induction n with
  | zero => rfl
  | succ n ih =>
    cases n with
    | zero => rfl
    | succ n =>
      rw [bitSamples, if_neg n.succ_ne_zero, List.length_append, List.length_append, ih]
      simp only [bitRise, List.length_append, List.length_map, List.length_cons, List.length_nil]
      omega

/-- Settles O18: the start puts the decoder before bit 19, and the bits are captured one by one down to the last. -/
theorem everyWaveformDeliversItsFrame : Obligations.EveryWaveformDeliversItsFrame := by
  refine ⟨fun s idle pulse rest shape f hc hs hp => ?_, fun f b => ?_⟩
  · exact run_waveform ⟨hc, hs⟩ f hp idle pulse rest shape
  · simp [waveform, length_bitSamples_shortest]

end Sys2Proof.Machine
end

section
/-!
The frame decoder and the probe, sample by sample (R131 to R137, R141, R143), and what is no event of the block (R260,
R274, logs 4 to 7): each transition is stated once of `decoderSample` or `probeSample`, the runs of samples are put
together from them.
-/

namespace Sys2Proof.Machine

/-! ### What is no event of the block (logs 4 to 7) -/

/-- A command at a busy port does nothing (R260). -/
theorem exec_command_busy {i : Instr} (hi : ∃ w, encode i = .command w) {s : State} (h : s.seq ≠ .none) :
    exec i s = .next s := by
  obtain ⟨w, hi⟩ := hi
  cases i
  case initializeCmd a => exact congrArg Host.Outcome.next (onPort_busy h)
  case setFilter u c => exact congrArg Host.Outcome.next (guarded_busy h)
  case calibrate a => exact congrArg Host.Outcome.next (guarded_busy h)
  case startSync a => exact congrArg Host.Outcome.next (guarded_busy h)
  case startAsync p => exact congrArg Host.Outcome.next (guarded_busy h)
  case stop a => exact congrArg Host.Outcome.next (guarded_busy h)
  case acquire a => exact congrArg Host.Outcome.next (guarded_busy h)
  case getFullScales a => exact congrArg Host.Outcome.next (guarded_busy h)
  case getState a => exact congrArg Host.Outcome.next (onPort_busy h)
  case isConnected a => exact congrArg Host.Outcome.next (onPort_busy h)
  all_goals cases hi

theorem runCommand_busy (w : CommandWord) {s : State} (h : s.seq ≠ .none) :
    runPacket (.command w) s = .next s := by
  cases hd : decode (.command w) with
  | ok i => exact (runPacket_ok hd s).trans (exec_command_busy (encode_decodeCommand_isCommand hd) h)
  | error e => exact (runPacket_error hd s).trans (congrArg Host.Outcome.next (onPort_busy h))

theorem takeTick_inactive {s : State} (h : s.asyncActive = false) : takeTick s = s := by
  simp [takeTick, h]

theorem consumerActive_eq_false {s : State} :
    consumerActive s = false ↔ s.seq ≠ .parse ∧ s.decActive = false := by
  simp [consumerActive]

theorem inContext_noConsumer {parser loop : State → State} {s : State} (h : consumerActive s = false) :
    inContext parser loop s = s := by
  obtain ⟨hs, hd⟩ := consumerActive_eq_false.mp h
  exact inContext_none hs hd

/-- Settles O9: an empty queue, the port of a busy sequencer, the inactive agent and the missing consumer each stop the
event before anything is written. -/
theorem noMoveChangesNothing : Obligations.NoMoveChangesNothing := by
  intro s rest
  refine ⟨step_idle, fun w hs hi => ?_, fun ha hi => ?_, fun i hi hc => ?_⟩
  · exact (step_event hi).trans (runCommand_busy w hs)
  · exact (step_event hi).trans (congrArg Host.Outcome.next (takeTick_inactive ha))
  · rcases hi with hstray | ⟨a, v, rfl⟩
    · obtain ⟨loop, _, exec_eq⟩ := exec_strayFrame_rule hstray
      rw [exec_eq, inContext_noConsumer hc]
    · rw [exec_calibration, inContext_noConsumer hc]

/-! ### The decoder's transitions (R132 to R137) -/

@[simp] theorem phase_probeSample (c : Bool) (s : State) : (probeSample c s).phase = s.phase := by
  obtain ⟨q, n, l, o, e⟩ := probeSample_keeps c s
  rw [e]

@[simp] theorem bit_probeSample (c : Bool) (s : State) : (probeSample c s).bit = s.bit := by
  obtain ⟨q, n, l, o, e⟩ := probeSample_keeps c s
  rw [e]

@[simp] theorem acc_probeSample (c : Bool) (s : State) : (probeSample c s).acc = s.acc := by
  obtain ⟨q, n, l, o, e⟩ := probeSample_keeps c s
  rw [e]

theorem state_phase_self {s : State} {ph : Phase} (h : s.phase = ph) : { s with phase := ph } = s := by
  subst h
  rfl

theorem exec_line_consumer {s : State} (h : consumerActive s = true) (c d : Bool) :
    exec (.line c d) s = decoderSample c d (probeSample c s) := execLine_consumer h

section
variable {s : State} {c d : Bool}

/-- R132. -/
theorem decoderSample_idle (h : s.phase = .idle) : decoderSample c d s =
    .next { s with phase := if c = true ∧ d = true then .armed else .idle } := by
  cases c <;> cases d <;> simp [decoderSample, h, state_phase_self]

/-- R133. -/
theorem decoderSample_armed (h : s.phase = .armed) : decoderSample c d s =
    .next { s with phase := if c = true then (if d = true then .armed else .pulse) else .idle } := by
  cases c <;> cases d <;> simp [decoderSample, h, state_phase_self]

/-- R134, the rise of the data line that begins a frame. -/
theorem decoderSample_pulse_start (h : s.phase = .pulse) : decoderSample true true s =
    .next { s with phase := .fall, bit := 19, acc := 0 } := by
  simp [decoderSample, h]

/-- R134, any other sample. -/
theorem decoderSample_pulse_other (h : s.phase = .pulse) (hcd : ¬(c = true ∧ d = true)) :
    decoderSample c d s = .next { s with phase := if c = true then .pulse else .idle } := by
  cases c
  · simp [decoderSample, h]
  · have low : d = false := by simpa using hcd
    simp [decoderSample, h, low, state_phase_self]

/-- R135. -/
theorem decoderSample_fall (h : s.phase = .fall) : decoderSample c d s =
    .next { s with phase := if c = true then .fall else .rise } := by
  cases c <;> simp [decoderSample, h, state_phase_self]

/-- R136, no edge yet. -/
theorem decoderSample_rise_low (h : s.phase = .rise) : decoderSample false d s = .next s := by
  simp [decoderSample, h]

/-- R136, the rising edge. -/
theorem decoderSample_rise_high (h : s.phase = .rise) : decoderSample true d s = captureBit d s := by
  simp [decoderSample, h]

end

/-- Settles O13: phase by phase, the transition is the decoder's own, on the state that the probe leaves. -/
theorem decoderTransitions : Obligations.DecoderTransitions := by
  intro s c d hc
  rw [exec_line_consumer hc]
  refine ⟨fun hp => ?_, fun hp => ?_, fun hp hclk hdat => ?_, fun hp hcd => ?_, fun hp => ?_, fun hp hclk => ?_⟩
  · exact decoderSample_idle (by simpa using hp)
  · exact decoderSample_armed (by simpa using hp)
  · subst hclk hdat
    exact decoderSample_pulse_start (by simpa using hp)
  · exact decoderSample_pulse_other (by simpa using hp) hcd
  · exact decoderSample_fall (by simpa using hp)
  · subst hclk
    exact decoderSample_rise_low (by simpa using hp)

theorem val_bitBelow {b : Fin 20} (h : b ≠ 0) : (bitBelow b).val + 1 = b.val :=
  Nat.succ_pred_eq_of_ne_zero fun e => h (Fin.ext e)

/-- With a consumer active, a rising edge captures the bit on the state that the probe leaves. -/
theorem exec_line_edge {s : State} (hc : consumerActive s = true) (hp : s.phase = .rise) (d : Bool) :
    exec (.line true d) s = captureBit d (probeSample true s) :=
  (exec_line_consumer hc true d).trans (decoderSample_rise_high (by simpa using hp))

/-- Settles O14: the accumulator with the captured bit, and the bit below. -/
theorem risingEdgeCapturesTheBit : Obligations.RisingEdgeCapturesTheBit := by
  intro s d hc hp hb
  refine ⟨setFrameBit s.acc s.bit d, bitBelow s.bit, ?_, val_bitBelow hb, getLsbD_setFrameBit s.acc s.bit d⟩
  have captured := captureBit_bitsLeft (s := probeSample true s) (by simpa using hb) d
  rw [acc_probeSample, bit_probeSample] at captured
  exact (exec_line_edge hc hp d).trans captured

/-- Settles O15: the accumulator with bit 0 captured is the frame. -/
theorem completedFrameRunsItsInstruction : Obligations.CompletedFrameRunsItsInstruction := by
  intro s d hc hp hb
  refine ⟨setFrameBit s.acc 0 d, ?_, getLsbD_setFrameBit s.acc 0 d⟩
  have captured := captureBit_lastBit (s := probeSample true s) (by simpa using hb) d
  have frame : setFrameBit (probeSample true s).acc (probeSample true s).bit d = setFrameBit s.acc 0 d := by
    rw [acc_probeSample, bit_probeSample, hb]
  rw [frame] at captured
  exact (exec_line_edge hc hp d).trans captured

/-! ### The probe's answers (R143, R271) -/

theorem probeSample_changed {c : Bool} {s : State} (h : s.seq = .probe) (hn : 1 ≤ s.probeN)
    (hc : c ≠ s.probeLast) : probeSample c s =
      { s with seq := .none, probeN := s.probeN + 1, out := s.out ++ [.resp .ok [1]] } := by
  have changed : 1 < s.probeN + 1 ∧ c ≠ s.probeLast := ⟨Nat.lt_succ_of_le hn, hc⟩
  simp only [probeSample, if_pos h, if_pos changed]
  rfl

/-- The first sample, or one whose clock level is the one before. -/
theorem probeSample_unchanged {c : Bool} {s : State} (h : s.seq = .probe)
    (hc : s.probeN = 0 ∨ c = s.probeLast) : probeSample c s =
      if s.probeN + 1 = s.cfg.nProbe then
        { s with seq := .none, probeN := s.probeN + 1, probeLast := c, out := s.out ++ [.resp .ok [0]] }
      else { s with probeN := s.probeN + 1, probeLast := c } := by
  have unchanged : ¬(1 < s.probeN + 1 ∧ c ≠ s.probeLast) := by
    rintro ⟨hn, hne⟩
    rcases hc with h0 | heq
    · omega
    · exact hne heq
  simp only [probeSample, if_pos h, if_neg unchanged]
  rfl

theorem exec_line_noConsumer {s : State} (h : consumerActive s = false) (c d : Bool) :
    exec (.line c d) s = .next (probeSample c s) := execLine_noConsumer h

/-- Settles O16: the idle port runs IS_CONNECTED, and the probe's cases are those of its clock level. -/
theorem probeLooksAtTheClock : Obligations.ProbeLooksAtTheClock :=
  ⟨fun _ _ hs => congrArg Host.Outcome.next (onPort_idle hs),
    fun c d _ hc => exec_line_noConsumer hc c d,
    fun _ _ hs => probeSample_other hs,
    fun _ _ => probeSample_changed,
    fun _ _ => probeSample_unchanged⟩

/-! ### Runs of the probe (R143) -/

/-- Only the probe takes the samples, and it has seen no clock level but `c`. -/
structure Probing (c : Bool) (s : State) : Prop where
  probe : s.seq = .probe
  noConsumer : consumerActive s = false
  level : s.probeN = 0 ∨ c = s.probeLast

/-- `s` with `n` samples taken by the probe, the last with clock level `c`. -/
def probeAt (s : State) (n : Nat) (c : Bool) : State := { s with probeN := n, probeLast := c }

/-- `s` after the probe's answer `r` at its sample number `n`, the level `c` being the last it kept. -/
def probeAnswered (s : State) (n : Nat) (c : Bool) (r : Word16) : State :=
  { s with seq := .none, probeN := n, probeLast := c, out := s.out ++ [.resp .ok [r]] }

theorem Probing.probeAt {c : Bool} {s : State} (h : Probing c s) (n : Nat) : Probing c (probeAt s n c) :=
  ⟨h.probe, h.noConsumer, .inr rfl⟩

/-- A sample that only the probe takes; the waiting samples do not matter to it. -/
theorem advances_noConsumer {s t : State} {c : Bool} (h : consumerActive s = false)
    (ht : ∀ q, probeSample c { s with input := q } = { t with input := q }) (d : Bool) :
    Advances [(c, d)] s t := fun ys => by
  refine run_succ ?_ _
  rw [step_sample (c := c) (d := d) rfl]
  exact (exec_line_noConsumer (s := { s with input := ys.map sampleEvent }) h c d).trans
    (congrArg Host.Outcome.next (ht _))

section
variable {c : Bool} {s : State} (h : Probing c s) (d : Bool)
include h

theorem advances_probe_counts (hn : s.probeN + 1 ≠ s.cfg.nProbe) :
    Advances [(c, d)] s (probeAt s (s.probeN + 1) c) :=
  advances_noConsumer h.noConsumer
    (fun q => (probeSample_unchanged (s := { s with input := q }) h.probe h.level).trans (if_neg hn)) d

theorem advances_probe_silent (hn : s.probeN + 1 = s.cfg.nProbe) :
    Advances [(c, d)] s (probeAnswered s s.cfg.nProbe c 0) :=
  advances_noConsumer h.noConsumer
    (fun q => by
      rw [probeSample_unchanged (s := { s with input := q }) h.probe h.level, if_pos hn, hn]
      rfl) d

theorem advances_probe_change (hn : 1 ≤ s.probeN) :
    Advances [(!c, d)] s (probeAnswered s (s.probeN + 1) c 1) := by
  obtain rfl : c = s.probeLast := h.level.resolve_left (Nat.ne_of_gt hn)
  exact advances_noConsumer h.noConsumer
    (fun q => probeSample_changed (s := { s with input := q }) h.probe hn (Bool.not_ne_self _)) d

/-- One or more samples of one level, too few for an answer, are counted. -/
theorem advances_probe_levels (ds : List Bool) (hn : s.probeN + (ds.length + 1) < s.cfg.nProbe) :
    Advances ((d :: ds).map fun d => (c, d)) s (probeAt s (s.probeN + (ds.length + 1)) c) := by
  induction ds generalizing s d with
  | nil => exact advances_probe_counts h d (Nat.ne_of_lt hn)
  | cons e ds ih =>
    have first := advances_probe_counts h d (by simp only [List.length_cons] at hn; omega)
    have others := ih (h.probeAt (s.probeN + 1)) e (by
      simp only [List.length_cons, probeAt] at hn ⊢
      omega)
    have counted : s.probeN + 1 + (ds.length + 1) = s.probeN + ((e :: ds).length + 1) := by
      simp only [List.length_cons]
      omega
    exact counted ▸ first.cons others

end

/-- A run over exactly these samples ends where they lead, with none left. -/
theorem Advances.run_all {xs : List (Bool × Bool)} {s t : State} (h : Advances xs s t) :
    Host.Core.run core xs.length (withSamples xs s) = .next { t with input := [] } := by
  have ran := h []
  rwa [List.append_nil] at ran

/-- Settles O17: all samples but the last are counted, and the last is answered 0 or, with the other level, 1. -/
theorem probeAnswersWithinItsBound : Obligations.ProbeAnswersWithinItsBound := by
  intro s c ds hs hn hd ⟨_, _, _, hN⟩
  have probing : Probing c s := ⟨hs, consumerActive_eq_false.mpr ⟨by simp [hs], hd⟩, .inl hn⟩
  have counted (e : Bool) (es : List Bool) (hlt : es.length + 1 < s.cfg.nProbe) :
      Advances ((e :: es).map fun d => (c, d)) s (probeAt s (es.length + 1) c) := by
    have := advances_probe_levels probing e es (by omega)
    rwa [hn, Nat.zero_add] at this
  refine ⟨fun hlen => ?_, fun d hpos hlt => ?_⟩
  · obtain ⟨es, d, rfl⟩ : ∃ es d, ds = es ++ [d] :=
      ⟨_, _, (List.dropLast_append_getLast (List.ne_nil_of_length_pos (by omega))).symm⟩
    rw [List.length_append, List.length_singleton] at hlen
    obtain ⟨e, es, rfl⟩ : ∃ e es', es = e :: es' := List.exists_cons_of_length_pos (by omega)
    have answered := advances_probe_silent (probing.probeAt (es.length + 1)) d hlen
    have ran := ((counted e es (by simp only [List.length_cons] at hlen; omega)).append answered).run_all
    rw [← List.length_map (f := fun d => (c, d)), List.map_append]
    exact ran
  · obtain ⟨e, es, rfl⟩ : ∃ e es, ds = e :: es := List.exists_cons_of_length_pos hpos
    have ran := ((counted e es hlt).append (advances_probe_change (probing.probeAt _) d (Nat.le_add_left 1 _))).run_all
    rw [List.length_append, List.length_map] at ran
    exact ran

/-! ### A spurious start pulse (R141) -/

section
variable {s : State} (h : Listening s) (b : Fin 20) (a : Frame)
include h

/-- With the clock high the decoder waits before a bit, whatever the data line does. -/
theorem advances_fall_waits {xs : List (Bool × Bool)} (hx : ∀ x ∈ xs, x.1 = true) :
    Advances xs (decoderAt s .fall b a) (decoderAt s .fall b a) :=
  .stay fun ⟨c, d⟩ hm => by
    obtain rfl : c = true := hx _ hm
    exact advances_fall_high h b a d

/-- From before bit 19 with nothing accumulated, format L delivers its frame too: its start has no clock edge. -/
theorem run_waveform_fall (idle pulse rest : Nat) (shape : Nat → BitShape) (f : Frame) :
    Host.Core.run core (waveform idle pulse rest shape f).length
        (withSamples (waveform idle pulse rest shape f) (decoderAt s .fall 19 0)) =
      exec (decodeFrame f) { decoderAt s .idle 0 f with input := [] } := by
  have bits := run_bitSamples h f shape 19 (by decide)
  rw [bitsFrom_twenty] at bits
  refine (advances_fall_waits h 19 0 fun x hx => ?_).run.trans bits
  simp only [List.mem_append, List.mem_replicate] at hx
  rcases hx with (⟨_, rfl⟩ | ⟨_, rfl⟩) | ⟨_, rfl⟩ <;> rfl

end

/-- Settles O19: the spurious pulse puts the decoder before bit 19, where it waits until the genuine bits come. -/
theorem spuriousPulseWithoutClockIsHarmless : Obligations.SpuriousPulseWithoutClockIsHarmless := by
  intro s i p idle pulse rest ds shape f hc hs hp
  have listening : Listening s := ⟨hc, hs⟩
  have started := advances_start listening hp i p 0
  have waited := Advances.stay_levels (advances_fall_high listening 19 0) ds
  exact (started.append waited).run.trans (run_waveform_fall listening idle pulse rest shape f)

end Sys2Proof.Machine
end

section
/-!
The arithmetic under the codec (R10, R161): a shift as the floor of a rational, shifts in sequence, and what the two
saturations do to a shifted integer.
-/

namespace Sys2Proof.Machine

/-! ### The shift as a floor -/

/-- R10: `floor_shift` is the floor of the exact product with a power of two. -/
theorem floorShift_eq_floor (x k : Int) : floorShift x k = ⌊(x : Rat) * (2 : Rat) ^ k⌋ := by
  cases k with
  | ofNat n =>
    rw [Int.ofNat_eq_natCast, floorShift_left, zpow_natCast, ← Int.floor_intCast (R := Rat) (x * 2 ^ n),
      Int.cast_mul, Int.cast_pow, Int.cast_ofNat]
  | negSucc n =>
    have := Rat.floor_intCast_div_natCast x (2 ^ (n + 1))
    rw [zpow_negSucc, ← div_eq_mul_inv]
    push_cast at this
    rw [this]
    rfl

/-- A power of two in the operand is part of the shift. -/
theorem floorShift_mul_pow (x : Int) (n : Nat) (k : Int) : floorShift (x * 2 ^ n) k = floorShift x (n + k) := by
  rw [floorShift_eq_floor, floorShift_eq_floor, zpow_add₀ two_ne_zero, zpow_natCast, ← mul_assoc,
    Int.cast_mul, Int.cast_pow, Int.cast_ofNat]

/-- A division after a shift continues the shift: the floor of a floor loses nothing. -/
theorem floorShift_ediv_pow (x k : Int) (n : Nat) : floorShift x k / 2 ^ n = floorShift x (k - n) := by
  rw [floorShift_eq_floor, floorShift_eq_floor, zpow_sub₀ two_ne_zero, zpow_natCast, ← mul_div_assoc]
  have := Int.floor_div_natCast ((x : Rat) * 2 ^ k) (2 ^ n)
  push_cast at this
  exact this.symm

/-! ### Saturation -/

/-- The wire word of a wire word's integer is that word. -/
theorem toWire_toInt (v : Word16) : toWire v.toInt = v := by
  apply BitVec.eq_of_toInt_eq
  have low := BitVec.le_toInt v
  have high := BitVec.toInt_lt (x := v)
  rw [toInt_toWire]
  exact sat16_inRange (by omega) (by omega)

/-- An integer in range enters a Number register unchanged. -/
theorem toInt_toNumber_inRange {x : Int} (low : -2147483648 ≤ x) (high : x ≤ 2147483647) :
    (toNumber x).toInt = x := by
  rw [toInt_toNumber, sat32_inRange low high]

theorem toNumber_above {x : Int} (h : 2147483647 ≤ x) : toNumber x = 0x7FFFFFFF := by
  apply BitVec.eq_of_toInt_eq
  rw [toInt_toNumber, sat32_eq]
  have bound : (0x7FFFFFFF : Number).toInt = 2147483647 := by decide
  omega

theorem toNumber_below {x : Int} (h : x ≤ -2147483648) : toNumber x = 0x80000000 := by
  apply BitVec.eq_of_toInt_eq
  rw [toInt_toNumber, sat32_eq]
  have bound : (0x80000000 : Number).toInt = -2147483648 := by decide
  omega

/-- A saturation to 32 bits does not show after a right shift of at most 16 and the saturation to 16 bits. -/
theorem sat16_sat32_ediv_pow (y : Int) {n : Nat} (h : n ≤ 16) :
    sat16 (sat32 y / 2 ^ n) = sat16 (y / 2 ^ n) := by
  have positive : (0 : Int) < 2 ^ n := by positivity
  have bounded : (2 : Int) ^ n ≤ 2 ^ 16 := pow_le_pow_right₀ (by decide) h
  have top : ∀ z : Int, 2147483647 ≤ z → 32767 ≤ z / 2 ^ n := fun z hz =>
    (Int.le_ediv_iff_mul_le positive).mpr (by omega)
  have bottom : ∀ z : Int, z ≤ -2147483648 → z / 2 ^ n < -32767 := fun z hz =>
    (Int.ediv_lt_iff_lt_mul positive).mpr (by omega)
  rcases lt_or_ge y (-2147483648) with below | low
  · have saturated : sat32 y = -2147483648 := by rw [sat32_eq]; omega
    have := bottom y below.le
    have := bottom (-2147483648) le_rfl
    rw [saturated, sat16_eq, sat16_eq]
    omega
  rcases lt_or_ge 2147483647 y with above | high
  · have saturated : sat32 y = 2147483647 := by rw [sat32_eq]; omega
    have := top y above.le
    have := top 2147483647 le_rfl
    rw [saturated, sat16_eq, sat16_eq]
    omega
  · rw [sat32_inRange low high]

/-- R169 of a Number register: its saturation does not show on the wire at a legal NUM_F. -/
theorem encodeNumber_toNumber {numF : Nat} (low : 15 ≤ numF) (high : numF ≤ 31) (x k : Int) :
    encodeNumber numF (toNumber (floorShift x k)) = toWire (floorShift x (k - (numF - 15))) := by
  obtain ⟨n, rfl⟩ := Nat.exists_eq_add_of_le' low
  have shift : ((n + 15 : Nat) : Int) - 15 = n := by omega
  rw [encodeNumber, toInt_toNumber, shift, floorShift_right, toWire, sat16_sat32_ediv_pow _ (by omega),
    floorShift_ediv_pow]
  rfl

end Sys2Proof.Machine
end

section
/-!
The leading zero count and the normalisation of a raw wire value (R162, R163).
-/

namespace Sys2Proof.Machine

/-! ### The leading zero count (R162) -/

theorem leadingZeros_le (t : Word16) (n : Nat) : leadingZeros t n ≤ n := by
  induction n with
  | zero => exact le_rfl
  | succ n ih =>
    rw [leadingZeros]
    split <;> omega

/-- The counted bits are 0. -/
theorem getLsbD_eq_false_of_counted {t : Word16} {n k : Nat} (counted : n - leadingZeros t n ≤ k) (hk : k < n) :
    t.getLsbD k = false := by
  induction n with
  | zero => omega
  | succ n ih =>
    rw [leadingZeros] at counted
    split at counted
    case isTrue => omega
    case isFalse top =>
      rcases Nat.lt_succ_iff_lt_or_eq.mp hk with below | rfl
      · exact ih (by omega) below
      · exact Bool.not_eq_true _ ▸ top

/-- The count stops at a bit that is 1. -/
theorem getLsbD_leadingZeros {t : Word16} {n : Nat} (h : leadingZeros t n < n) :
    t.getLsbD (n - 1 - leadingZeros t n) = true := by
  induction n with
  | zero => omega
  | succ n ih =>
    rw [leadingZeros] at h ⊢
    split at h
    case isTrue top => rwa [if_pos top]
    case isFalse top =>
      rw [if_neg top, ← ih (by omega)]
      congr 1
      omega

theorem clz16_le (t : Word16) : clz16 t ≤ 16 := leadingZeros_le t 16

theorem getLsbD_eq_false_of_clz16 {t : Word16} {k : Nat} (counted : 16 - clz16 t ≤ k) (hk : k < 16) :
    t.getLsbD k = false :=
  getLsbD_eq_false_of_counted counted hk

theorem getLsbD_clz16 {t : Word16} (h : clz16 t < 16) : t.getLsbD (15 - clz16 t) = true := getLsbD_leadingZeros h

/-- All 16 bits are counted only in zero. -/
theorem clz16_lt {t : Word16} (h : t ≠ 0) : clz16 t < 16 := by
  refine (clz16_le t).lt_of_ne fun all => h (BitVec.eq_of_getLsbD_eq fun k hk => ?_)
  rw [getLsbD_eq_false_of_clz16 (by omega) hk]
  exact BitVec.getLsbD_zero.symm

/-- Settles O20: the counted bits are 0, and in a word other than zero the count stops at a 1. -/
theorem leadingZeroCount : Obligations.LeadingZeroCount := by
  refine ⟨by decide, fun t ht => ⟨Nat.le_of_lt_succ (clz16_lt ht), getLsbD_clz16 (clz16_lt ht), ?_⟩⟩
  intro k counted hk
  exact getLsbD_eq_false_of_clz16 (by omega) hk

/-! ### The normalised mantissa (R163) -/

/-- The raw value, or its complement when the value is negative: the operand of the count in R163. -/
def signCleared (v : Word16) : Word16 := if v.msb then ~~~v else v

theorem normShift_eq (v : Word16) : normShift v = clz16 (signCleared v) - 1 := rfl

/-- A bit of the operand says whether that bit of the value differs from the sign. -/
theorem getLsbD_signCleared (v : Word16) {k : Nat} (hk : k < 16) :
    (signCleared v).getLsbD k = (v.getLsbD k ^^ v.msb) := by
  unfold signCleared
  cases hv : v.msb <;> simp [hk]

/-- Only in 0x0000 and 0xFFFF no bit differs from the sign. -/
theorem signCleared_ne_zero {v : Word16} (hz : v ≠ 0x0000) (ho : v ≠ 0xFFFF) : signCleared v ≠ 0 := by
  unfold signCleared
  split
  · exact fun h => ho ((BitVec.not_eq_comm.mp h).trans (by decide))
  · exact hz

/-- The sign bit of the operand is 0, so R163 never shifts to the right. -/
theorem clz16_signCleared (v : Word16) : clz16 (signCleared v) = normShift v + 1 := by
  have counted : clz16 (signCleared v) ≠ 0 := fun none => by
    have stops := getLsbD_clz16 (t := signCleared v) (by omega)
    rw [none, getLsbD_signCleared v (by decide), BitVec.msb_eq_getLsbD_last, Bool.xor_self] at stops
    exact absurd stops nofun
  rw [normShift_eq]
  omega

theorem normShift_le (v : Word16) : normShift v ≤ 15 := by
  have counted := clz16_le (signCleared v)
  have := clz16_signCleared v
  omega

theorem normShift_le_of_ne {v : Word16} (hz : v ≠ 0x0000) (ho : v ≠ 0xFFFF) : normShift v ≤ 14 := by
  have counted := clz16_lt (signCleared_ne_zero hz ho)
  have := clz16_signCleared v
  omega

/-- The bits that the shift drops or moves to bit 15 all equal the sign. -/
theorem getLsbD_eq_msb {v : Word16} {j : Nat} (h : 15 - normShift v ≤ j) (hj : j < 16) : v.getLsbD j = v.msb := by
  have same : (signCleared v).getLsbD j = false := by
    refine getLsbD_eq_false_of_clz16 ?_ hj
    rw [clz16_signCleared]
    omega
  rw [getLsbD_signCleared v hj] at same
  exact bne_eq_false_iff_eq.mp same

/-- The bit that the shift brings to bit 14 differs from the sign. -/
theorem getLsbD_ne_msb {v : Word16} (hz : v ≠ 0x0000) (ho : v ≠ 0xFFFF) : v.getLsbD (14 - normShift v) ≠ v.msb := by
  have counted := clz16_lt (signCleared_ne_zero hz ho)
  have stops := getLsbD_clz16 counted
  rw [clz16_signCleared, Nat.add_comm, ← Nat.sub_sub, getLsbD_signCleared v (by omega)] at stops
  exact (bne_iff_ne).mp stops

/-- The operand has no bit from bit `15 - s` on. -/
theorem toNat_signCleared_lt (v : Word16) : (signCleared v).toNat < 2 ^ (15 - normShift v) := by
  refine Nat.lt_pow_two_of_testBit _ fun j hj => ?_
  rw [BitVec.testBit_toNat]
  rcases lt_or_ge j 16 with inside | outside
  · rw [getLsbD_signCleared v inside, getLsbD_eq_msb hj inside, Bool.xor_self]
  · exact BitVec.getLsbD_of_ge _ _ outside

/-- A raw value is its operand, or one less than the negative of it. -/
theorem toInt_eq_signCleared (v : Word16) :
    v.toInt = if v.msb then -((signCleared v).toNat : Int) - 1 else ((signCleared v).toNat : Int) := by
  have := v.isLt
  rw [BitVec.toInt_eq_msb_cond, signCleared]
  split
  · rw [BitVec.toNat_not]
    omega
  · rfl

/-- The shifted value is within the 16-bit range. -/
theorem toInt_mul_pow_normShift (v : Word16) :
    -(2 ^ 15) ≤ v.toInt * 2 ^ normShift v ∧ v.toInt * 2 ^ normShift v < 2 ^ 15 := by
  have positive : (0 : Int) < 2 ^ normShift v := by positivity
  have full : (2 : Int) ^ (15 - normShift v) * 2 ^ normShift v = 2 ^ 15 := by
    rw [← pow_add, Nat.sub_add_cancel (normShift_le v)]
  have bound : ((signCleared v).toNat : Int) < 2 ^ (15 - normShift v) := by
    exact_mod_cast toNat_signCleared_lt v
  have low : -(2 ^ (15 - normShift v)) ≤ v.toInt := by
    rw [toInt_eq_signCleared]
    split <;> omega
  have high : v.toInt < 2 ^ (15 - normShift v) := by
    rw [toInt_eq_signCleared]
    split <;> omega
  rw [← full]
  exact ⟨by rw [← neg_mul]; exact Int.mul_le_mul_of_nonneg_right low positive.le,
    Int.mul_lt_mul_of_pos_right high positive⟩

/-- R163: the mantissa is the value times a power of two, exactly, for every raw value. -/
theorem toInt_normalizeRaw (v : Word16) : (normalizeRaw v).1.toInt = v.toInt * 2 ^ normShift v := by
  obtain ⟨low, high⟩ := toInt_mul_pow_normShift v
  rw [normalizeRaw, BitVec.toInt_shiftLeft, Nat.shiftLeft_eq, Nat.cast_mul, ← Int.bmod_mul_bmod,
    ← BitVec.toInt_eq_toNat_bmod, Nat.cast_pow, Nat.cast_ofNat]
  exact Int.bmod_eq_of_le (by omega) (by omega)

/-- Bits 15 and 14 of the mantissa are the sign and a bit that differs from it. -/
theorem normalizeRaw_getLsbD_sign (v : Word16) : (normalizeRaw v).1.getLsbD 15 = v.msb := by
  have := normShift_le v
  rw [normalizeRaw, BitVec.getLsbD_shiftLeft, getLsbD_eq_msb (by omega) (by omega)]
  simp [this]

theorem normalizeRaw_getLsbD_fourteen {v : Word16} (hz : v ≠ 0x0000) (ho : v ≠ 0xFFFF) :
    (normalizeRaw v).1.getLsbD 14 ≠ v.msb := by
  have := normShift_le_of_ne hz ho
  rw [normalizeRaw, BitVec.getLsbD_shiftLeft]
  simpa [Nat.not_lt.mpr this] using getLsbD_ne_msb hz ho

/-- Settles O21: the shift is by one less than the count, and the bits it drops all equal the sign. -/
theorem normalizeKeepsTheValue : Obligations.NormalizeKeepsTheValue := by
  refine ⟨by decide, by decide, fun v hz ho => ?_⟩
  have sign : v.getLsbD 15 = v.msb := (BitVec.msb_eq_getLsbD_last v).symm
  refine ⟨normShift v, normShift_le_of_ne hz ho, ?_, rfl, ?_, ?_, toInt_normalizeRaw v, fun j hj => ?_⟩
  · rw [sign]
    exact (clz16_signCleared v).symm
  · rw [sign, normalizeRaw_getLsbD_sign]
  · rw [normalizeRaw_getLsbD_sign]
    exact normalizeRaw_getLsbD_fourteen hz ho
  · rw [normalizeRaw, BitVec.getLsbD_shiftLeft]
    simp [hj]

end Sys2Proof.Machine
end

section
/-!
The packing rule (R164 to R168, R170, R173): the fields of the packed word, the mantissa it stands for, its value and its
Number.
-/

namespace Sys2Proof.Machine

/-! ### The value of a canonical word (R165, R166) -/

theorem cwValue_eq (w : Word32) : cwValue w = (cwSignificand w : Rat) * (2 : Rat) ^ cwExponent w := by
  unfold cwValue
  split
  case h_1 n h =>
    rw [h, Int.ofNat_eq_natCast, zpow_natCast, Nat.cast_pow, Nat.cast_ofNat]
  case h_2 n h =>
    rw [h, zpow_negSucc, div_eq_mul_inv, Nat.cast_pow, Nat.cast_ofNat]

/-- Settles O23: both sides are the floor of one rational, clamped. -/
theorem numberIsTheFlooredValue : Obligations.NumberIsTheFlooredValue := by
  intro numF w
  have scaled : cwValue w * (2 : Rat) ^ numF = (cwSignificand w : Rat) * (2 : Rat) ^ (cwExponent w + numF) := by
    rw [cwValue_eq, mul_assoc, ← zpow_natCast, ← zpow_add₀ two_ne_zero]
  rw [scaled, ← floorShift_eq_floor, cwToNum, toInt_toNumber, sat32_eq]

/-! ### The fields of a packed word (R164) -/

/-- The magnitude of R164, before the mask to 14 bits. -/
def magnitude (m : Word16) : Word16 := if m.msb then -m else m

/-- The four fields in two halves: sign and exponent above bit 23, the fraction below. -/
theorem pack_eq (e : Int) (m : Word16) :
    pack e m = (BitVec.ofBool m.msb ++ BitVec.ofInt 8 (e + 126)) ++ ((magnitude m).extractLsb' 0 14 ++ 0#9) := by
  rw [pack, ← magnitude]
  generalize BitVec.extractLsb' 0 14 (magnitude m) = f
  generalize BitVec.ofBool m.msb ++ BitVec.ofInt 8 (e + 126) = u
  exact BitVec.append_assoc

theorem fraction_pack (e : Int) (m : Word16) :
    (pack e m).extractLsb' 0 23 = (magnitude m).extractLsb' 0 14 ++ 0#9 := by
  rw [pack_eq]
  exact BitVec.extractLsb'_append_eq_right

theorem exponentField_pack (e : Int) (m : Word16) :
    (pack e m).extractLsb' 23 8 = BitVec.ofInt 8 (e + 126) := by
  rw [pack_eq, BitVec.extractLsb'_append_eq_of_le (by decide)]
  exact BitVec.extractLsb'_append_eq_right

theorem msb_pack (e : Int) (m : Word16) : (pack e m).msb = m.msb := by
  rw [pack_eq]
  refine (BitVec.msb_append (w := 9) (v := 23)).trans ?_
  exact (BitVec.msb_append (w := 1) (v := 8)).trans (by simp)

/-- The 14 stored bits of a mantissa under the implied leading one. -/
def packedMagnitude (m : Word16) : Nat := 2 ^ 14 + (magnitude m).toNat % 2 ^ 14

/-- The integer that a packed word's sign and bits stand for, in units of bit 9. -/
def packedMantissa (m : Word16) : Int := if m.msb then -(packedMagnitude m : Int) else packedMagnitude m

theorem cwSignificand_pack (e : Int) (m : Word16) : cwSignificand (pack e m) = packedMantissa m * 2 ^ 9 := by
  have fraction : ((magnitude m).extractLsb' 0 14 ++ 0#9).toNat = (magnitude m).toNat % 2 ^ 14 * 2 ^ 9 := by
    rw [BitVec.toNat_append, Nat.shiftLeft_eq, BitVec.extractLsb'_toNat, Nat.shiftRight_zero]
    exact Nat.or_zero _
  rw [cwSignificand, msb_pack, fraction_pack, fraction, packedMantissa, packedMagnitude]
  split <;> omega

theorem cwExponent_pack {e : Int} (m : Word16) (low : -126 ≤ e) (high : e ≤ 129) :
    cwExponent (pack e m) = e - 24 := by
  rw [cwExponent, exponentField_pack, BitVec.toNat_ofInt]
  omega

/-! ### The mantissa of a packed word -/

theorem packedMagnitude_bounds (m : Word16) : 2 ^ 14 ≤ packedMagnitude m ∧ packedMagnitude m < 2 ^ 15 := by
  unfold packedMagnitude
  omega

/-- Bits 15 and 14 differ exactly in the upper halves of the two signs' ranges. -/
theorem toNat_of_normalised {m : Word16} (normal : m.getLsbD 14 ≠ m.getLsbD 15) :
    2 ^ 14 ≤ m.toNat ∧ m.toNat < 3 * 2 ^ 14 := by
  have := m.isLt
  simp only [BitVec.getLsbD, Nat.testBit_eq_decide_div_mod_eq, ne_eq, decide_eq_decide] at normal
  omega

/-- R165: a normalised mantissa other than 0x8000 is what its packed word stands for. -/
theorem packedMantissa_eq_toInt {m : Word16} (normal : m.getLsbD 14 ≠ m.getLsbD 15) (h : m ≠ 0x8000) :
    packedMantissa m = m.toInt := by
  obtain ⟨low, high⟩ := toNat_of_normalised normal
  have notMin : m.toNat ≠ 0x8000 := fun e => h (BitVec.eq_of_toNat_eq e)
  rw [BitVec.toInt_eq_msb_cond, packedMantissa, packedMagnitude, magnitude]
  split
  case isTrue hm =>
    have := BitVec.msb_eq_true_iff_two_mul_ge.mp hm
    rw [BitVec.toNat_neg]
    omega
  case isFalse hm =>
    have := BitVec.msb_eq_false_iff_two_mul_lt.mp (Bool.not_eq_true _ ▸ hm)
    omega

theorem validPair_iff {m : Word16} {e : Int} :
    validPair m e = true ↔ m.getLsbD 14 ≠ m.getLsbD 15 ∧ m ≠ 0x8000 ∧ -126 ≤ e ∧ e ≤ 127 := by
  simp [validPair, normalised, and_assoc]

/-- Settles O22: the packed word holds the mantissa nine bits up, at the exponent less 24. -/
theorem packedWordOfValidPair : Obligations.PackedWordOfValidPair := by
  intro m e valid
  obtain ⟨normal, notMin, low, high⟩ := validPair_iff.mp valid
  rw [cwValue_eq, cwSignificand_pack, cwExponent_pack m low (by omega), packedMantissa_eq_toInt normal notMin]
  have shift : e - 15 = 9 + (e - 24) := by omega
  rw [shift, zpow_add₀ two_ne_zero]
  push_cast
  rw [mul_assoc]

/-! ### The Number of a pair (R168, R173) -/

/-- R168 for every mantissa, normalised or not. -/
theorem decodeCal_eq (numF : Nat) (m : Word16) {e : Int} (low : -126 ≤ e) (high : e ≤ 129) :
    decodeCal numF m e = toNumber (floorShift (packedMantissa m) (e + numF - 15)) := by
  rw [decodeCal, cwToNum, cwSignificand_pack, cwExponent_pack m low high, floorShift_mul_pow]
  congr 2
  push_cast
  omega

/-- Settles O24: a valid mantissa is the packed one. -/
theorem validPairDecodesToItsValue : Obligations.ValidPairDecodesToItsValue := by
  intro numF m e valid
  obtain ⟨normal, notMin, low, high⟩ := validPair_iff.mp valid
  rw [decodeCal_eq numF m low (by omega), packedMantissa_eq_toInt normal notMin]

/-- The exponent enters a packed word modulo 256 (R164). -/
theorem pack_add_256 (e : Int) (m : Word16) : pack (e + 256) m = pack e m := by
  have field : BitVec.ofInt 8 (e + 256 + 126) = BitVec.ofInt 8 (e + 126) := by
    apply BitVec.eq_of_toNat_eq
    rw [BitVec.toNat_ofInt, BitVec.toNat_ofInt]
    omega
  rw [pack_eq, pack_eq, field]

/-- A shift of a packed mantissa by 17 or more leaves the 32-bit range. -/
theorem toNumber_packedMantissa_left (m : Word16) {n : Nat} (h : 17 ≤ n) :
    toNumber (floorShift (packedMantissa m) n) = if m.msb then 0x80000000 else 0x7FFFFFFF := by
  have product : (2 : Int) ^ 14 * 2 ^ 17 ≤ packedMagnitude m * 2 ^ n := by
    exact_mod_cast Nat.mul_le_mul (packedMagnitude_bounds m).1 (Nat.pow_le_pow_right two_pos h)
  rw [floorShift_left, packedMantissa]
  split
  · exact toNumber_below (by rw [neg_mul]; omega)
  · exact toNumber_above (by omega)

/-- A right shift of a packed mantissa by 15 or more leaves only its sign. -/
theorem floorShift_packedMantissa_right (m : Word16) {n : Nat} (h : 15 ≤ n) :
    floorShift (packedMantissa m) (-(n : Int)) = if m.msb then -1 else 0 := by
  obtain ⟨positive, bounded⟩ := packedMagnitude_bounds m
  have below : (2 : Int) ^ 15 ≤ 2 ^ n := pow_le_pow_right₀ (by decide) h
  rw [floorShift_right, packedMantissa]
  split
  · exact Int.ediv_eq_neg_one_of_neg_of_le (by omega) (by omega)
  · exact Int.ediv_eq_zero_of_lt (by omega) (by omega)

/-- Settles O25: -128 and -127 wrap to 128 and 129, and the shift at -126 is past all 15 bits of the mantissa. -/
theorem extremeExponents : Obligations.ExtremeExponents := by
  intro numF m low high
  refine ⟨fun e he => ?_, ?_⟩
  · have wrapped : decodeCal numF m e = decodeCal numF m (e + 256) := by rw [decodeCal, decodeCal, pack_add_256]
    obtain ⟨n, hn⟩ : ∃ n : Nat, e + 256 + numF - 15 = n := Int.eq_ofNat_of_zero_le (by omega)
    rw [wrapped, decodeCal_eq numF m (by omega) (by omega), hn, toNumber_packedMantissa_left m (by omega)]
  · obtain ⟨n, hn⟩ : ∃ n : Nat, (-126 : Int) + numF - 15 = -n := ⟨141 - numF, by omega⟩
    rw [decodeCal_eq numF m le_rfl (by decide), hn, floorShift_packedMantissa_right m (by omega)]
    cases m.msb <;> decide

end Sys2Proof.Machine
end

section
/-!
The contract functions (R167 to R169): the round trip of valid pairs and of raw values (R171, R172), and the smoothing
coefficient (R175).
-/

namespace Sys2Proof.Machine

/-- Settles O28: on the wire neither the saturation nor the fractional bits of the Number show. -/
theorem validPairsRoundTrip : Obligations.ValidPairsRoundTrip := by
  intro numF m e low high valid
  rw [validPairDecodesToItsValue numF m e valid, encodeNumber_toNumber low high]
  congr 2
  omega

/-! ### The mantissa of a raw value (R172) -/

/-- The fifteen values of R172 (b) by their exponents. -/
theorem halvedRaw_iff (v : Word16) : halvedRaw v = true ↔ ∃ k < 15, BitVec.ofInt 16 (-(2 ^ (15 - k))) = v := by
  have listed : halvedRaw v = ((List.range 15).map fun k => BitVec.ofInt 16 (-(2 ^ (15 - k)))).contains v := rfl
  rw [listed, List.contains_iff_mem, List.mem_map]
  simp only [List.mem_range]

theorem normalizeRaw_of_halved {v : Word16} (h : halvedRaw v = true) : (normalizeRaw v).1 = 0x8000 := by
  obtain ⟨k, hk, rfl⟩ := (halvedRaw_iff v).mp h
  revert k
  decide

/-- What the fifteen values are: negative and even. -/
theorem toInt_of_halved {v : Word16} (h : halvedRaw v = true) : v.toInt < 0 ∧ v.toInt % 2 = 0 := by
  obtain ⟨k, hk, rfl⟩ := (halvedRaw_iff v).mp h
  revert k
  decide

/-- Besides 0xFFFF, only the fifteen values have the mantissa that R164 masks to zero. -/
theorem halvedRaw_of_normalizeRaw {v : Word16} (hz : v ≠ 0x0000) (ho : v ≠ 0xFFFF)
    (h : (normalizeRaw v).1 = 0x8000) : halvedRaw v = true := by
  have hk := normShift_le_of_ne hz ho
  have product : v.toInt * 2 ^ normShift v = -(2 ^ (15 - normShift v)) * 2 ^ normShift v := by
    rw [← toInt_normalizeRaw, h, neg_mul, ← pow_add, Nat.sub_add_cancel (by omega)]
    rfl
  refine (halvedRaw_iff v).mpr ⟨normShift v, by omega, ?_⟩
  rw [← Int.eq_of_mul_eq_mul_right (by positivity) product, BitVec.ofInt_toInt]

/-- `RawHalves v x`: the word packed from the raw value `v` stands for `x` halves of a wire unit, the unit in which all
raw values of R172 are integers. -/
def RawHalves (v : Word16) (x : Int) : Prop := packedMantissa (normalizeRaw v).1 * 2 = x * 2 ^ normShift v

theorem rawHalves_exact {v : Word16} (hz : v ≠ 0x0000) (ho : v ≠ 0xFFFF) (h : halvedRaw v = false) :
    RawHalves v (v.toInt * 2) := by
  have notMin : (normalizeRaw v).1 ≠ 0x8000 := fun e => by
    rw [halvedRaw_of_normalizeRaw hz ho e] at h
    exact absurd h nofun
  have normal : (normalizeRaw v).1.getLsbD 14 ≠ (normalizeRaw v).1.getLsbD 15 := by
    rw [normalizeRaw_getLsbD_sign]
    exact normalizeRaw_getLsbD_fourteen hz ho
  rw [RawHalves, packedMantissa_eq_toInt normal notMin, toInt_normalizeRaw]
  ring

theorem rawHalves_halved {v : Word16} (h : (normalizeRaw v).1 = 0x8000) : RawHalves v v.toInt := by
  rw [RawHalves, ← toInt_normalizeRaw, h]
  decide

theorem rawHalves_zero : RawHalves 0x0000 1 := by
  unfold RawHalves
  decide

theorem rawHalves_ones : RawHalves 0xFFFF (-1) := rawHalves_halved (by decide)

section
variable {v : Word16} {x : Int} (h : RawHalves v x)
include h

theorem decodeRaw_eq (numF : Nat) : decodeRaw numF v = toNumber (floorShift x (numF - 16)) := by
  have hk := normShift_le v
  have decoded : decodeRaw numF v = decodeCal numF (normalizeRaw v).1 (-(normShift v : Int)) := rfl
  have single : floorShift (packedMantissa (normalizeRaw v).1) (-(normShift v : Int) + numF - 15) =
      floorShift (packedMantissa (normalizeRaw v).1 * 2 ^ 1) (-(normShift v : Int) + numF - 16) := by
    rw [floorShift_mul_pow]
    congr 1
    push_cast
    omega
  rw [decoded, decodeCal_eq _ _ (by omega) (by omega), single, pow_one, h, floorShift_mul_pow]
  congr 2
  omega

/-- At a legal NUM_F no raw value saturates. -/
theorem toInt_decodeRaw {numF : Nat} (low : 15 ≤ numF) (high : numF ≤ 31) (hx : -65536 ≤ x) (hx' : x ≤ 65535) :
    (decodeRaw numF v).toInt = floorShift x (numF - 16) := by
  have halves : floorShift x ((numF : Int) - 16) = x * 2 ^ (numF - 15) / 2 ^ 1 := by
    rw [← floorShift_left, floorShift_ediv_pow]
    congr 1
    push_cast [low]
    omega
  have scale : (2 : Int) ^ (numF - 15) ≤ 2 ^ 16 := pow_le_pow_right₀ (by decide) (by omega)
  have positive : (0 : Int) < 2 ^ (numF - 15) := by positivity
  have inRange : -(65536 * 2 ^ 16) ≤ x * 2 ^ (numF - 15) ∧ x * 2 ^ (numF - 15) ≤ 65535 * 2 ^ 16 := by
    constructor <;> nlinarith
  rw [decodeRaw_eq h, toInt_toNumber_inRange] <;> omega

/-- On the wire the half unit is rounded away. -/
theorem encodeNumber_decodeRaw {numF : Nat} (low : 15 ≤ numF) (high : numF ≤ 31) :
    encodeNumber numF (decodeRaw numF v) = toWire (x / 2) := by
  have half : (numF : Int) - 16 - (numF - 15) = -(1 : Nat) := by omega
  rw [decodeRaw_eq h, encodeNumber_toNumber low high, half, floorShift_right, pow_one]

end

/-- Settles O26: each raw value's number of half wire units, scaled. -/
theorem rawValuesDecodeExactly : Obligations.RawValuesDecodeExactly := by
  intro numF v low high
  have least := BitVec.le_toInt v
  have greatest := BitVec.toInt_lt (x := v)
  have shift : (numF : Int) - 15 = (numF - 15 : Nat) := by omega
  have doubled (x : Int) : floorShift (x * 2) ((numF : Int) - 16) = x * 2 ^ (numF - 15) := by
    rw [← floorShift_left, ← pow_one 2, floorShift_mul_pow]
    congr 1
    omega
  refine ⟨fun hz ho h => ?_, fun h => ?_, ?_, ?_⟩
  · rw [toInt_decodeRaw (rawHalves_exact hz ho h) low high (by omega) (by omega), doubled]
  · obtain ⟨-, even⟩ := toInt_of_halved h
    obtain ⟨x, hx⟩ : ∃ x, v.toInt = x * 2 := ⟨v.toInt / 2, by omega⟩
    rw [toInt_decodeRaw (rawHalves_halved (normalizeRaw_of_halved h)) low high (by omega) (by omega), hx, doubled]
    ring
  · exact toInt_decodeRaw rawHalves_zero low high (by decide) (by decide)
  · exact toInt_decodeRaw rawHalves_ones low high (by decide) (by decide)

/-- Settles O27: a whole number of wire units comes back, and of the half units only those beside 0 and -1 do. -/
theorem rawValuesRoundTrip : Obligations.RawValuesRoundTrip := by
  intro numF v low high
  constructor
  · intro back
    by_contra h
    rw [Bool.not_eq_false] at h
    obtain ⟨negative, even⟩ := toInt_of_halved h
    have least := BitVec.le_toInt v
    have half := congrArg BitVec.toInt back
    rw [encodeNumber_decodeRaw (rawHalves_halved (normalizeRaw_of_halved h)) low high, toInt_toWire,
      sat16_inRange (by omega) (by omega)] at half
    omega
  · intro h
    by_cases hz : v = 0x0000
    · rw [hz, encodeNumber_decodeRaw rawHalves_zero low high]
      decide
    by_cases ho : v = 0xFFFF
    · rw [ho, encodeNumber_decodeRaw rawHalves_ones low high]
      decide
    rw [encodeNumber_decodeRaw (rawHalves_exact hz ho h) low high, Int.mul_ediv_cancel _ two_ne_zero, toWire_toInt]

/-! ### The smoothing coefficient (R175) -/

/-- A share of `a` is below `a`. -/
theorem mul_div_add_lt {a n d : Nat} (ha : 0 < a) (hd : 0 < d) : a * n / (n + d) < a :=
  (Nat.div_lt_iff_lt_mul (by omega)).mpr (Nat.mul_lt_mul_of_pos_left (by omega) ha)

/-- What `q` takes of a part, at most `a` per unit, it also takes of a larger part. -/
theorem mul_add_le_of_le {q a n k d : Nat} (hq : q ≤ a) (share : q * (n + d) ≤ a * n) (h : n ≤ k) :
    q * (k + d) ≤ a * k := by
  obtain ⟨r, rfl⟩ := Nat.exists_eq_add_of_le hq
  have grown : r * n ≤ r * k := Nat.mul_le_mul_left r h
  rw [Nat.mul_add, Nat.add_mul] at share ⊢
  omega

/-- A share grows with its part. -/
theorem mul_div_add_mono {a n k d : Nat} (ha : 0 < a) (h : n ≤ k) (hd : 0 < d) :
    a * n / (n + d) ≤ a * k / (k + d) :=
  (Nat.le_div_iff_mul_le (by omega)).mpr
    (mul_add_le_of_le (mul_div_add_lt ha hd).le (Nat.div_mul_le_self _ _) h)

theorem toNat_alphaOf {fsHz : Nat} (hf : 1 ≤ fsHz) {c : Word16} (hc : c ≠ 0) :
    (alphaOf fsHz c).toNat =
      2 ^ 31 * (1686629713 * c.toNat) / (1686629713 * c.toNat + 100 * fsHz * 2 ^ 28) := by
  have below := mul_div_add_lt (a := 2 ^ 31) (n := 1686629713 * c.toNat) (d := 100 * fsHz * 2 ^ 28)
    (by decide) (by omega)
  rw [alphaOf, if_neg hc, BitVec.toNat_ofNat]
  exact Nat.mod_eq_of_lt (by unfold twoPiQ28; omega)

/-- Settles O29: above 0 the coefficient is the share of a growing part in the part and a fixed rest. -/
theorem smoothingCoefficient : Obligations.SmoothingCoefficient := by
  intro fsHz hf
  refine ⟨rfl, fun c hc => ⟨toNat_alphaOf hf hc, ?_⟩, fun c d hc h => ?_⟩
  · rw [toNat_alphaOf hf hc]
    exact mul_div_add_lt (by decide) (by omega)
  · have hd : d ≠ 0 := by
      rintro rfl
      exact hc (BitVec.eq_of_toNat_eq (Nat.le_zero.mp h))
    rw [toNat_alphaOf hf hc, toNat_alphaOf hf hd]
    exact mul_div_add_mono (by decide) (Nat.mul_le_mul_left _ h) (by omega)

end Sys2Proof.Machine
end

section
/-!
The calibration parser (R201 to R208): one frame of each kind in parse context, and by induction over the length of the
sequence what a whole image of frames leaves behind.
-/

namespace Sys2Proof.Machine

/-! ### One frame in parse context (R201 to R204) -/

theorem exec_strayFrame_parse {i : Instr} (hi : isStrayFrame i = true) {s : State} (h : s.seq = .parse) :
    exec i s = .next s := by
  obtain ⟨loop, _, exec_eq⟩ := exec_strayFrame_rule hi
  rw [exec_eq, inContext_parse h, id]

/-- Settles O31: the eight rows that are not CALIBRATION are the stray frames. -/
theorem parserDiscardsOtherFrames : Obligations.ParserDiscardsOtherFrames := by
  intro s p ch h
  have discards (i : Instr) (hi : isStrayFrame i = true) : exec i s = .next s := exec_strayFrame_parse hi h
  exact ⟨discards _ rfl, discards _ rfl, discards _ rfl, discards _ rfl, discards _ rfl, discards _ rfl,
    discards _ rfl, discards _ rfl⟩

theorem acceptsByte_iff {a : Byte} {s : State} : acceptsByte a s = true ↔ s.calCount = 0 ∨ a = s.calLast + 1 := by
  simp [acceptsByte]

/-- The successor of a byte is its successor modulo 256 (R202). -/
theorem eq_add_one_iff_toNat {a b : Byte} : a = b + 1 ↔ a.toNat = (b.toNat + 1) % 256 := by
  rw [← BitVec.toNat_inj, BitVec.toNat_add]
  rfl

theorem exec_calibration_parse {s : State} (h : s.seq = .parse) (a v : Byte) :
    exec (.calibration a v) s = .next (parseByte a v s) := by
  rw [exec_calibration, inContext_parse h]

theorem parseByte_dropped {a v : Byte} {s : State} (h : ¬acceptsByte a s = true) : parseByte a v s = s := if_neg h

theorem parseByte_stored {a v : Byte} {s : State} (h : acceptsByte a s = true) (hc : s.calCount + 1 ≠ 256) :
    parseByte a v s = storeByte a v s := (if_pos h).trans (if_neg hc)

theorem parseByte_last {a v : Byte} {s : State} (h : acceptsByte a s = true) (hc : s.calCount + 1 = 256) :
    parseByte a v s = completeParse (storeByte a v s) := (if_pos h).trans (if_pos hc)

/-- Settles O32: the byte's address decides between the store, read back by `Memory.read_write`, and the drop. -/
theorem parserStoresSequentialBytes : Obligations.ParserStoresSequentialBytes := by
  intro s a v hs
  rw [← eq_add_one_iff_toNat, ← acceptsByte_iff, exec_calibration_parse hs]
  refine ⟨fun accepted more hwf => ⟨s.img.write a.toNat v, ?_, Memory.read_write hwf⟩, fun dropped => ?_⟩
  · rw [parseByte_stored accepted more]
    rfl
  · rw [parseByte_dropped dropped]

/-- The coefficient with the offsets of its three bytes written out (R205). -/
theorem extractCoef_eq (numF : Nat) (m : Memory) (i j : Axis) :
    extractCoef numF m i j =
      decodeCal numF
        (m.read (11 + 20 * i.slot + 3 * j.slot) ++ m.read (10 + 20 * i.slot + 3 * j.slot))
        (m.read (12 + 20 * i.slot + 3 * j.slot)).toInt := by
  have upper : 10 + 20 * i.slot + 3 * j.slot + 1 = 11 + 20 * i.slot + 3 * j.slot := by omega
  have exponent : 10 + 20 * i.slot + 3 * j.slot + 2 = 12 + 20 * i.slot + 3 * j.slot := by omega
  rw [extractCoef, Memory.word16, upper, exponent]

/-- The full scale with the offsets of its two bytes written out (R206). -/
theorem extractFullScale_eq (m : Memory) (i : Axis) :
    extractFullScale m i = m.read (29 + 20 * i.slot) ++ m.read (28 + 20 * i.slot) := by
  have upper : 28 + 20 * i.slot + 1 = 29 + 20 * i.slot := by omega
  rw [extractFullScale, Memory.word16, upper]

/-- Settles O33: the extraction reads the image that the last store has left. -/
theorem lastByteCompletesTheParse : Obligations.LastByteCompletesTheParse := by
  intro s a v hs hc ha hwf
  have accepted : acceptsByte a s = true := acceptsByte_iff.mpr (.inr (eq_add_one_iff_toNat.mpr ha))
  have last : s.calCount + 1 = 256 := by rw [hc]
  refine ⟨s.img.write a.toNat v, (completeParse (storeByte a v s)).coef, (completeParse (storeByte a v s)).fs, ?_,
    Memory.read_write hwf, fun i j => ?_, fun i => ?_⟩
  · rw [exec_calibration_parse hs, parseByte_last accepted last, ← last]
    rfl
  · rw [completeParse_coef, Six.get_ofFn, Six.get_ofFn, extractCoef_eq, storeByte_img, storeByte_cfg]
  · rw [completeParse_fs, Six.get_ofFn, extractFullScale_eq, storeByte_img]

/-! ### Sequences of frames -/

theorem execAll_append {is js : List Instr} {s t : State} (h : execAll is s = .next t) :
    execAll (is ++ js) s = execAll js t := by
  induction is generalizing s with
  | nil =>
    cases h
    rfl
  | cons i is ih =>
    rw [execAll] at h
    rw [List.cons_append, execAll]
    cases hi : exec i s with
    | next u =>
      rw [hi] at h
      exact ih h
    | fault r => cases r
    | refused r =>
      rw [hi] at h
      cases h

theorem execAll_singleton {i : Instr} {s t : State} (h : exec i s = .next t) : execAll [i] s = .next t := by
  rw [execAll, h]
  rfl

theorem execAll_strayFrames {is : List Instr} (his : ∀ i ∈ is, isStrayFrame i = true) {s : State}
    (h : s.seq = .parse) : execAll is s = .next s := by
  induction is with
  | nil => rfl
  | cons i is ih =>
    obtain ⟨hi, his⟩ := List.forall_mem_cons.mp his
    rw [execAll, exec_strayFrame_parse hi h]
    exact ih his

/-! ### A whole image (R208) -/

/-- The `k`-th address of the sensor's cycle that begins at `first` (R202). -/
def cycleAddress (first : Byte) (k : Nat) : Byte := first + BitVec.ofNat 8 k

theorem cycleAddress_succ (first : Byte) (k : Nat) : cycleAddress first (k + 1) = cycleAddress first k + 1 := by
  rw [cycleAddress, cycleAddress, BitVec.ofNat_add, BitVec.add_assoc]
  rfl

/-- The cycle meets every address within 256 frames (R204). -/
theorem exists_cycleAddress (first a : Byte) : ∃ k < 256, cycleAddress first k = a :=
  ⟨(a - first).toNat, (a - first).isLt, by
    rw [cycleAddress, BitVec.ofNat_toNat, BitVec.setWidth_eq, BitVec.add_comm, BitVec.sub_add_cancel]⟩

/-- The frames of the first `n` bytes of an image. -/
def cycleFrames (first : Byte) (bytes : Byte → Byte) (stray : Nat → List Instr) (n : Nat) : List Instr :=
  (List.range n).flatMap fun k => stray k ++ [.calibration (cycleAddress first k) (bytes (cycleAddress first k))]

theorem imageFrames_eq (first : Byte) (bytes : Byte → Byte) (stray : Nat → List Instr) :
    imageFrames first bytes stray = cycleFrames first bytes stray 256 := rfl

theorem cycleFrames_succ (first : Byte) (bytes : Byte → Byte) (stray : Nat → List Instr) (n : Nat) :
    cycleFrames first bytes stray (n + 1) = cycleFrames first bytes stray n ++
      (stray n ++ [.calibration (cycleAddress first n) (bytes (cycleAddress first n))]) := by
  simp only [cycleFrames, List.range_succ, List.flatMap_append, List.flatMap_singleton]

/-- The parse begun in `s` stands in `t` after `n` bytes of the image: they are stored, and nothing is emitted. -/
structure Collected (first : Byte) (bytes : Byte → Byte) (s : State) (n : Nat) (t : State) : Prop where
  seq : t.seq = .parse
  calCount : t.calCount = n
  calLast : n ≠ 0 → cycleAddress first n = t.calLast + 1
  img_wf : Memory.wf t.img
  stored : ∀ k < n, t.img.read (cycleAddress first k).toNat = bytes (cycleAddress first k)
  cfg : t.cfg = s.cfg
  out : t.out = s.out

section
variable {first : Byte} {bytes : Byte → Byte} {stray : Nat → List Instr} {s t : State} {n : Nat}

theorem collected_start (hs : s.seq = .parse) (hc : s.calCount = 0) (hwf : Memory.wf s.img) :
    Collected first bytes s 0 s :=
  ⟨hs, hc, fun h => absurd rfl h, hwf, fun _ hk => absurd hk (Nat.not_lt_zero _), rfl, rfl⟩

/-- The next byte of the cycle is accepted (R202). -/
theorem Collected.accepts (h : Collected first bytes s n t) : acceptsByte (cycleAddress first n) t = true := by
  rw [acceptsByte_iff, h.calCount]
  exact (eq_or_ne n 0).imp_right h.calLast

/-- An address met twice gets the same byte twice, so no store undoes another. -/
theorem Collected.store (h : Collected first bytes s n t) :
    Collected first bytes s (n + 1) (storeByte (cycleAddress first n) (bytes (cycleAddress first n)) t) where
  seq := h.seq
  calCount := congrArg (· + 1) h.calCount
  calLast _ := cycleAddress_succ first n
  img_wf := Memory.write_wf h.img_wf (cycleAddress first n).isLt
  stored k hk := by
    rw [storeByte_img, Memory.read_write h.img_wf]
    split
    · next same => rw [BitVec.eq_of_toNat_eq same]
    · next other =>
      have earlier : k ≠ n := fun e => other (by rw [e])
      exact h.stored k (by omega)
  cfg := h.cfg
  out := h.out

/-- The strays of a stage change nothing, so the stage is its CALIBRATION byte. -/
theorem Collected.execAll_succ (h : Collected first bytes s n t)
    (run : execAll (cycleFrames first bytes stray n) s = .next t)
    (hstray : ∀ k, ∀ i ∈ stray k, isStrayFrame i = true) :
    execAll (cycleFrames first bytes stray (n + 1)) s =
      .next (parseByte (cycleAddress first n) (bytes (cycleAddress first n)) t) := by
  rw [cycleFrames_succ, execAll_append run, execAll_append (execAll_strayFrames (hstray n) h.seq)]
  exact execAll_singleton (exec_calibration_parse h.seq _ _)

/-- Short of the whole image, every byte sent is collected. -/
theorem exists_collected (hs : s.seq = .parse) (hc : s.calCount = 0) (hwf : Memory.wf s.img)
    (hstray : ∀ k, ∀ i ∈ stray k, isStrayFrame i = true) (hn : n < 256) :
    ∃ t, execAll (cycleFrames first bytes stray n) s = .next t ∧ Collected first bytes s n t := by
  induction n with
  | zero => exact ⟨s, rfl, collected_start hs hc hwf⟩
  | succ n ih =>
    obtain ⟨t, run, collected⟩ := ih (by omega)
    have more_to_come : t.calCount + 1 ≠ 256 := by rw [collected.calCount]; omega
    exact ⟨_, (collected.execAll_succ run hstray).trans
      (congrArg Host.Outcome.next (parseByte_stored collected.accepts more_to_come)), collected.store⟩

theorem Collected.read_image (h : Collected first bytes s 256 t) (a : Byte) : t.img.read a.toNat = bytes a := by
  obtain ⟨k, hk, rfl⟩ := exists_cycleAddress first a
  exact h.stored k hk

end

/-- Settles O34: 255 frames collect their bytes, and the last one completes the parse. -/
theorem wholeImageIsParsed : Obligations.WholeImageIsParsed := by
  intro s first bytes stray hs hc hwf hstray
  obtain ⟨t, run, collected⟩ := exists_collected (first := first) (bytes := bytes) (n := 255) hs hc hwf hstray
    (by decide)
  have last : t.calCount + 1 = 256 := by rw [collected.calCount]
  have whole := collected.store
  refine ⟨_, (collected.execAll_succ run hstray).trans
    (congrArg Host.Outcome.next (parseByte_last collected.accepts last)),
    whole.read_image, fun i j => ?_, fun i => ?_, rfl, rfl, whole.calCount, ?_⟩
  · rw [completeParse_coef, Six.get_ofFn, Six.get_ofFn, whole.cfg, completeParse_img]
  · rw [completeParse_fs, Six.get_ofFn, completeParse_img]
  · rw [completeParse_out, whole.out]

end Sys2Proof.Machine
end

section
/-!
The filter update (R234) on exact integers: the step it takes is a share of the difference, so it neither overshoots nor
saturates.
-/

namespace Sys2Proof.Machine

/-- The floor of a share `a / n` of `d` lies between 0 and `d`. -/
theorem share_between {a n : Int} (ha : 0 ≤ a) (han : a ≤ n) (hn : 0 < n) (d : Int) :
    min 0 d ≤ a * d / n ∧ a * d / n ≤ max 0 d := by
  rcases le_total 0 d with hd | hd
  · have product_nonneg : 0 ≤ a * d := mul_nonneg ha hd
    have product_le : a * d ≤ d * n := mul_comm n d ▸ mul_le_mul_of_nonneg_right han hd
    rw [min_eq_left hd, max_eq_right hd]
    exact ⟨Int.ediv_nonneg product_nonneg hn.le, Int.ediv_le_of_le_mul hn product_le⟩
  · have product_nonpos : a * d ≤ 0 * n := by
      rw [zero_mul]
      exact mul_nonpos_of_nonneg_of_nonpos ha hd
    have le_product : d * n ≤ a * d := mul_comm n d ▸ mul_le_mul_of_nonpos_right han hd
    rw [min_eq_right hd, max_eq_left hd]
    exact ⟨(Int.le_ediv_iff_mul_le hn).mpr le_product, Int.ediv_le_of_le_mul hn product_nonpos⟩

section
variable {alphaL : Word32} (halpha : alphaL.toNat ≤ 2 ^ 31) (old new : Number)
include halpha

/-- The step of the filter, before it is added to the old value, stays on the way to the new value. -/
theorem filterStep_between :
    min 0 (new.toInt - old.toInt) ≤ (alphaL.toNat : Int) * (new.toInt - old.toInt) / 2 ^ 31 ∧
    (alphaL.toNat : Int) * (new.toInt - old.toInt) / 2 ^ 31 ≤ max 0 (new.toInt - old.toInt) :=
  share_between (Int.natCast_nonneg _) (by exact_mod_cast halpha) (by decide) _

/-- R234 without the saturation, which a latched alpha of at most 1 never needs. -/
theorem toInt_filterAxis : (filterAxis alphaL old new).toInt =
    old.toInt + (alphaL.toNat : Int) * (new.toInt - old.toInt) / 2 ^ 31 := by
  obtain ⟨low, high⟩ := filterStep_between halpha old new
  have old_low := BitVec.le_toInt old
  have old_high := BitVec.toInt_lt (x := old)
  have new_low := BitVec.le_toInt new
  have new_high := BitVec.toInt_lt (x := new)
  have shifted := floorShift_right ((alphaL.toNat : Int) * (new.toInt - old.toInt)) 31
  rw [filterAxis, show (-31 : Int) = -((31 : Nat) : Int) from rfl, shifted]
  exact toInt_toNumber_inRange (by omega) (by omega)

/-- The filter moves by its step, so a step of `new - old` reaches the new value. -/
theorem filterAxis_reaches
    (h : (alphaL.toNat : Int) * (new.toInt - old.toInt) / 2 ^ 31 = new.toInt - old.toInt) :
    filterAxis alphaL old new = new :=
  BitVec.eq_of_toInt_eq (by rw [toInt_filterAxis halpha, h]; omega)

/-- A step of 0 stays at the old value. -/
theorem filterAxis_stays (h : (alphaL.toNat : Int) * (new.toInt - old.toInt) / 2 ^ 31 = 0) :
    filterAxis alphaL old new = old :=
  BitVec.eq_of_toInt_eq (by rw [toInt_filterAxis halpha, h, add_zero])

end

/-- Settles O30: the bounds are those of the step, and the limit cases are its values at both ends of alpha's range and
on either side of 0, the floor of a negative quotient being at most -1. -/
theorem filterNeverOvershoots : Obligations.FilterNeverOvershoots := by
  intro alphaL old new halpha
  have value := toInt_filterAxis halpha old new
  obtain ⟨low, high⟩ := filterStep_between halpha old new
  refine ⟨value, by omega, by omega, fun one => ?_, fun zero => ?_, fun positive above => ?_, fun below small => ?_⟩
  · refine filterAxis_reaches halpha old new ?_
    rw [one]
    exact Int.mul_ediv_cancel_left _ (by decide)
  · refine filterAxis_stays halpha old new ?_
    rw [zero, Nat.cast_zero, zero_mul, Int.zero_ediv]
  · have product_neg : (alphaL.toNat : Int) * (new.toInt - old.toInt) < 0 :=
      mul_neg_of_pos_of_neg (by exact_mod_cast positive) (by omega)
    have step_neg := Int.ediv_neg_of_neg_of_pos product_neg (show (0 : Int) < 2 ^ 31 by decide)
    omega
  · refine filterAxis_stays halpha old new (Int.ediv_eq_zero_of_lt ?_ small)
    exact mul_nonneg (Int.natCast_nonneg _) (by omega)

end Sys2Proof.Machine
end

section
/-!
The decode loop (R221 to R240): the loop top, what one frame does to the sequence, the completed revolution, and what a
line sample may change in the sample values and the expectation.
-/

namespace Sys2Proof.Machine

/-! ### The loop top (R221) -/

theorem observesStop_iff {s : State} :
    observesStop s = true ↔ s.stopReq = true ∧ (s.cfg.stopObserve = .frame ∨ s.expect = .forceX) := by
  simp [observesStop]

/-- Settles O35: the two situations are those of `observesStop`; the check after an exit waits for the async agent or
completes the stop sequence. -/
theorem loopTopLatchesAndObserves : Obligations.LoopTopLatchesAndObserves := by
  intro s
  rw [← observesStop_iff]
  refine ⟨fun unobserved => loopTop_goesOn (by simpa using unobserved), fun observed => ?_⟩
  rw [loopTop_exits observed]
  refine ⟨fun async => stopCheck_waiting ?_, fun after exited stopping => stopCheck_exited stopping ?_⟩
  · simp [running, async]
  · simp [running, exited]

/-- A frame's handling that ends in the loop top only latches ALPHA there while no stop is requested. -/
theorem exec_loopTop_noRequest {i : Instr} {s u : State} (h : exec i s = .next (loopTop u))
    (hr : u.stopReq = false) : exec i s = .next { u with alphaL := u.alpha } := by
  rw [h, loopTop_noRequest hr]

/-! ### One frame and the sequence (R222 to R232) -/

/-- A frame whose loop rule breaks the sequence at `s`, whatever the parser would do with it. -/
theorem exec_breaksSequence {i : Instr} {parser loop : State → State} {s : State}
    (exec_eq : exec i s = .next (inContext parser loop s)) (hs : s.seq ≠ .parse) (hd : s.decActive = true)
    (breaks : loop s = sequenceBreak s) : exec i s = .next (loopTop { s with expect := .forceX }) := by
  rw [exec_eq, inContext_loop hs hd, breaks, sequenceBreak]

/-- Reading a table after one entry was replaced. -/
theorem Six.get_set {α : Type} (t : Six α) (a b : Axis) (x : α) :
    (t.set a x).get b = if b = a then x else t.get b := by
  split
  · next same => rw [same, Six.get_set_same]
  · next other => exact Six.get_set_other t x other

/-- An instruction whose loop rule is `loopAxis a b` is an axis frame of the sequence. -/
theorem axisFrameRule_of_exec {mk : Word16 → Instr} {a b : Axis}
    (exec_eq : ∀ p s, exec (mk p) s = .next (inContext id (loopAxis a b p) s)) : axisFrameRule mk a b := by
  intro p s
  refine ⟨fun hs => ?_, fun hs hd expected => ?_, fun hs hd unexpected => ?_⟩
  · rw [exec_eq, inContext_parse hs, id]
  · have stored : exec (mk p) s =
        .next (loopTop { s with raw := s.raw.set a (decodeRaw s.cfg.numF p), expect := b }) := by
      rw [exec_eq, inContext_loop hs hd, loopAxis_inSequence expected, storeRaw]
    exact ⟨_, stored, exec_loopTop_noRequest stored, fun x => Six.get_set _ _ _ _⟩
  · have broken := exec_breaksSequence (exec_eq p s) hs hd (loopAxis_break unexpected)
    exact ⟨broken, exec_loopTop_noRequest broken⟩

/-- Settles O36: each of the five has the loop rule of its axis and the next. -/
theorem axisFramesAdvanceTheSequence : Obligations.AxisFramesAdvanceTheSequence :=
  ⟨axisFrameRule_of_exec exec_forceX, axisFrameRule_of_exec exec_forceY, axisFrameRule_of_exec exec_forceZ,
    axisFrameRule_of_exec exec_momentX, axisFrameRule_of_exec exec_momentY⟩

/-- Settles O37: the three rows share the loop rule `sequenceBreak`; only CALIBRATION has another parser rule. -/
theorem otherFramesBreakTheSequence : Obligations.OtherFramesBreakTheSequence := by
  intro s p ch a v i hi
  have breaks : ∃ parser, exec i s = .next (inContext parser sequenceBreak s) := by
    rcases hi with rfl | rfl | rfl
    · exact ⟨_, exec_voltage p s⟩
    · exact ⟨_, exec_reserved ch p s⟩
    · exact ⟨_, exec_calibration a v s⟩
  obtain ⟨parser, exec_eq⟩ := breaks
  refine ⟨fun hs not_calibration => ?_, fun hs hd => ?_⟩
  · rcases hi with rfl | rfl | rfl
    · exact exec_strayFrame_parse rfl hs
    · exact exec_strayFrame_parse rfl hs
    · exact absurd rfl not_calibration
  · have broken := exec_breaksSequence exec_eq hs hd rfl
    exact ⟨broken, exec_loopTop_noRequest broken⟩

/-! ### The completed revolution (R229, R233 to R238) -/

theorem exec_momentZ_inSequence {p : Word16} {s : State} (hs : s.seq ≠ .parse) (hd : s.decActive = true)
    (he : s.expect = .momentZ) :
    exec (.momentZ p) s = .next (loopTop (completeRevolution (storeRaw .momentZ p s))) := by
  rw [exec_momentZ, inContext_loop hs hd, loopMomentZ_inSequence he]

/-- The model's sum over the six raw slots is the statement's. -/
theorem decoupleAxis_eq_decoupled (numF : Nat) (coef : Six (Six Number)) (raw : Six Number) (i : Axis) :
    decoupleAxis numF coef raw i = decoupled numF coef raw i := rfl

theorem get_dec_decoupleAndFilter (s : State) (x : Axis) :
    (decoupleAndFilter s).dec.get x = decoupled s.cfg.numF s.coef s.raw x := by
  rw [decoupleAndFilter, Six.get_ofFn, decoupleAxis_eq_decoupled]

theorem get_fil_decoupleAndFilter (s : State) (x : Axis) :
    (decoupleAndFilter s).fil.get x =
      filterAxis s.alphaL (s.fil.get x) ((decoupleAndFilter s).dec.get x) := by
  rw [decoupleAndFilter, Six.get_ofFn]

/-- Settles O38: without a zero-offset request the revolution publishes, with one it services the request, and in both
cases the decoupled values are those of the raw slots with the new one. -/
theorem momentZCompletesTheRevolution : Obligations.MomentZCompletesTheRevolution := by
  intro p s
  refine ⟨exec_strayFrame_parse rfl, fun hs hd unexpected => ?_, fun hs hd expected => ?_⟩
  · exact exec_breaksSequence (exec_momentZ p s) hs hd (loopMomentZ_break unexpected)
  · rw [exec_momentZ_inSequence hs hd expected]
    have slots (x : Axis) := Six.get_set s.raw .momentZ x (decodeRaw s.cfg.numF p)
    have decouples := get_dec_decoupleAndFilter (storeRaw .momentZ p s)
    have filters := get_fil_decoupleAndFilter (storeRaw .momentZ p s)
    cases pending : s.zeroPending
    · have published := completeRevolution_publish (s := storeRaw .momentZ p s) pending
      refine ⟨_, _, (decoupleAndFilter (storeRaw .momentZ p s)).fil, s.off, _, ?_, slots, decouples,
        fun x => ⟨fun _ => ⟨filters x, rfl, Six.get_ofFn _ x⟩, nofun⟩⟩
      rw [published, ← pending]
      rfl
    · have serviced := completeRevolution_zero (s := storeRaw .momentZ p s) pending
      refine ⟨_, _, _, _, Six.fill 0, ?_, slots, decouples, fun x => ⟨nofun, fun _ => ⟨rfl, rfl, Six.get_fill 0 x⟩⟩⟩
      rw [serviced]
      rfl

/-! ### Reading the sample after a zero-offset service (R240, R268) -/

theorem exec_acquire_running {s : State} (hs : s.seq = .none) (hc : s.ctl = .ready) (hd : s.decActive = true)
    (a : Word32) : exec (.acquire a) s = .next (emitResp .ok (sampleRecord s) s) :=
  congrArg Host.Outcome.next ((guarded_ready hs hc).trans (if_pos hd))

/-- Six zeros go to the wire as six zeros, at every NUM_F. -/
theorem sampleRecord_zero {s : State} (h : s.shared = Six.fill 0) :
    sampleRecord s = [0, 0, 0, 0, 0, 0, s.counter] := by
  simp only [sampleRecord, h, Six.fill, Six.toList, List.map, encodeNumber_zero]
  rfl

/-- Settles O39: the serviced request leaves the published values zero, and ACQUIRE reads these and the new counter. -/
theorem zeroOffsetReadsZero : Obligations.ZeroOffsetReadsZero := by
  intro p a s t hs hc hd hr he hz ht
  have not_parse : s.seq ≠ .parse := by simp [hs]
  have serviced := completeRevolution_zero (s := storeRaw .momentZ p s) hz
  have not_requested : (completeRevolution (storeRaw .momentZ p s)).stopReq = false := by
    rw [serviced]
    exact hr
  rw [exec_loopTop_noRequest (exec_momentZ_inSequence not_parse hd he) not_requested, serviced] at ht
  obtain ⟨idle, ready, looping, zero, counted⟩ : t.seq = .none ∧ t.ctl = .ready ∧ t.decActive = true ∧
      t.shared = Six.fill 0 ∧ t.counter = s.counter + 1 := by
    cases ht
    exact ⟨hs, hc, hd, rfl, rfl⟩
  rw [exec_acquire_running idle ready looping, sampleRecord_zero zero, ← counted]
  rfl

/-! ### What a frame may change in the sequence (R239) -/

/-- What a completed revolution writes: the decoupled, filtered, offset and published values, and the counter. -/
def sampleValues (s : State) : Six Number × Six Number × Six Number × Six Number × Word16 :=
  (s.dec, s.fil, s.off, s.shared, s.counter)

theorem sampleValues_ne {s t : State}
    (h : t.dec ≠ s.dec ∨ t.fil ≠ s.fil ∨ t.off ≠ s.off ∨ t.shared ≠ s.shared ∨ t.counter ≠ s.counter) :
    sampleValues t ≠ sampleValues s := by
  intro same
  simp only [sampleValues, Prod.mk.injEq] at same
  tauto

/-- Neither the sample values nor the expectation changed. -/
structure SequenceKept (s t : State) : Prop where
  samples : sampleValues t = sampleValues s
  expect : t.expect = s.expect

/-- How a frame of channel `ch` moves the sequence in loop context: it keeps the sample values unless it completes the
revolution, and then FORCE_X is expected or, after the expected channel, the next. -/
structure SequenceMoved (ch : BitVec 4) (s t : State) : Prop where
  samples : sampleValues t = sampleValues s ∨ (ch = 6 ∧ s.expect = .momentZ)
  expect : t.expect = .forceX ∨ (ch = s.expect.channel ∧ t.expect.slot = s.expect.slot + 1)
  stopReq : t.stopReq = s.stopReq

theorem sequenceBreak_moves (ch : BitVec 4) (s : State) : SequenceMoved ch s (sequenceBreak s) :=
  ⟨.inl rfl, .inl rfl, rfl⟩

theorem loopAxis_moves {ch : BitVec 4} {a b : Axis} (hch : ch = a.channel) (hab : b.slot = a.slot + 1) (p : Word16)
    (s : State) : SequenceMoved ch s (loopAxis a b p s) := by
  rcases loopAxis_cases a b p s with ⟨rfl, e⟩ | ⟨_, e⟩ <;> rw [e]
  · exact ⟨.inl rfl, .inr ⟨hch, hab⟩, rfl⟩
  · exact sequenceBreak_moves ch s

theorem loopMomentZ_moves {ch : BitVec 4} (hch : ch = 6) (p : Word16) (s : State) :
    SequenceMoved ch s (loopMomentZ p s) := by
  rcases loopMomentZ_cases p s with ⟨expected, e⟩ | ⟨_, e⟩ <;> rw [e]
  · obtain ⟨dec, fil, off, shared, e⟩ := completeRevolution_keeps (storeRaw .momentZ p s)
    rw [e]
    exact ⟨.inr ⟨hch, expected⟩, .inl rfl, rfl⟩
  · exact sequenceBreak_moves ch s

/-- Every completed frame has a parser rule, and a loop rule that moves the sequence as its channel says (R91, R220). -/
theorem exec_decodeFrame_moves (f : Frame) : ∃ parser loop, ParserRule parser ∧
    (∀ s, SequenceMoved f.channel s (loop s)) ∧ ∀ s, exec (decodeFrame f) s = .next (inContext parser loop s) := by
  unfold decodeFrame
  split
  case h_1 => exact ⟨_, _, .discard, sequenceBreak_moves _, exec_voltage _⟩
  case h_2 h => exact ⟨_, _, .discard, loopAxis_moves (BitVec.eq_of_toNat_eq h) rfl _, exec_forceX _⟩
  case h_3 h => exact ⟨_, _, .discard, loopAxis_moves (BitVec.eq_of_toNat_eq h) rfl _, exec_forceY _⟩
  case h_4 h => exact ⟨_, _, .discard, loopAxis_moves (BitVec.eq_of_toNat_eq h) rfl _, exec_forceZ _⟩
  case h_5 h => exact ⟨_, _, .discard, loopAxis_moves (BitVec.eq_of_toNat_eq h) rfl _, exec_momentX _⟩
  case h_6 h => exact ⟨_, _, .discard, loopAxis_moves (BitVec.eq_of_toNat_eq h) rfl _, exec_momentY _⟩
  case h_7 h => exact ⟨_, _, .discard, loopMomentZ_moves (BitVec.eq_of_toNat_eq h) _, exec_momentZ _⟩
  case h_8 => exact ⟨_, _, .byte _ _, sequenceBreak_moves _, exec_calibration _ _⟩
  case h_9 => exact ⟨_, _, .discard, sequenceBreak_moves _, exec_reserved _ _⟩

/-- The parser touches neither the sample values nor the expectation. -/
theorem ParserRule.sequenceKept {parser : State → State} (hp : ParserRule parser) (s : State) :
    SequenceKept s (parser s) := by
  cases hp with
  | discard => exact ⟨rfl, rfl⟩
  | byte a v => rcases parseByte_cases a v s with ⟨_, e⟩ | ⟨_, _, e⟩ | ⟨_, _, e⟩ <;> rw [e] <;> exact ⟨rfl, rfl⟩

/-- Without a stop request, a completed frame keeps the sequence, or it is the decode loop's and moves it. -/
theorem exec_decodeFrame_keeps_or_moves {f : Frame} {s t : State} (h : exec (decodeFrame f) s = .next t)
    (hr : s.stopReq = false) :
    SequenceKept s t ∨ (s.seq ≠ .parse ∧ s.decActive = true ∧ SequenceMoved f.channel s t) := by
  obtain ⟨parser, loop, hparser, moves, exec_eq⟩ := exec_decodeFrame_moves f
  rw [exec_eq] at h
  cases h
  rcases inContext_cases parser loop s with ⟨_, e⟩ | ⟨hs, hd, e⟩ | ⟨_, _, e⟩ <;> rw [e]
  · exact .inl (hparser.sequenceKept s)
  · have moved := moves s
    rw [loopTop_noRequest (moved.stopReq.trans hr)]
    exact .inr ⟨hs, hd, { moved with }⟩
  · exact .inl ⟨rfl, rfl⟩

/-! ### What a line sample may change in the sequence (R239) -/

/-- Bit 0 of a frame is not part of its channel (R90). -/
theorem channel_setFrameBit_zero (a : Frame) (d : Bool) : (setFrameBit a 0 d).channel = a.channel := by
  refine BitVec.eq_of_getLsbD_eq fun k hk => ?_
  have in_frame : 16 + k < 20 := by omega
  have not_bit_zero : 16 + k ≠ (0 : Fin 20).val := by simp
  rw [Frame.channel, Frame.channel, BitVec.getLsbD_extractLsb', BitVec.getLsbD_extractLsb',
    getLsbD_setFrameBit a 0 d _ in_frame, if_neg not_bit_zero]

/-- The sample `w` completes a frame in loop context, and the frame moves the sequence. -/
structure CompletesLoopFrame (w : LineWord) (s t : State) : Prop where
  seq : s.seq ≠ .parse
  decActive : s.decActive = true
  phase : s.phase = .rise
  bit : s.bit = 0
  clock : w.getLsbD 1 = true
  moved : SequenceMoved s.acc.channel s t

theorem runLine_keeps_or_completes {w : LineWord} {s t : State} (h : runPacket (.line w) s = .next t)
    (hr : s.stopReq = false) : SequenceKept s t ∨ CompletesLoopFrame w s t := by
  change execLine (w.getLsbD 1) (w.getLsbD 0) s = .next t at h
  have parses (hs : s.seq = .parse) : (probeSample (w.getLsbD 1) s).seq = .parse := by
    rw [probeSample_other (by simp [hs]), hs]
  obtain ⟨q, n, l, o, probed⟩ := probeSample_keeps (w.getLsbD 1) s
  rcases execLine_cases (w.getLsbD 1) (w.getLsbD 0) s with ⟨ph, b, a, e⟩ | ⟨_, hphase, hbit, hclock, e⟩ <;>
    rw [e, probed] at h
  · cases h
    exact .inl ⟨rfl, rfl⟩
  · rw [probed] at parses
    rcases exec_decodeFrame_keeps_or_moves h hr with kept | ⟨hs, hd, moved⟩
    · exact .inl { kept with }
    · rw [channel_setFrameBit_zero] at moved
      exact .inr ⟨fun hp => hs (parses hp), hd, hphase, hbit, hclock, { moved with }⟩

/-- Settles O40: a line sample that changes anything of the sequence completes a frame in loop context, and the frame
moves the sequence as its channel says. -/
theorem revolutionsNeedTheWholeSequence : Obligations.RevolutionsNeedTheWholeSequence := by
  intro s t w rest hi ht hr
  rw [step_event hi] at ht
  rcases runLine_keeps_or_completes ht hr with ⟨samples, expect⟩ | ⟨hs, hd, hphase, hbit, hclock, moved⟩
  · exact ⟨fun changed => absurd samples (sampleValues_ne changed), fun changed => absurd expect changed⟩
  · refine ⟨fun changed => ?_, fun changed => ⟨hs, hd, hphase, hbit, hclock, moved.expect⟩⟩
    obtain ⟨hch, expected⟩ := moved.samples.resolve_left (sampleValues_ne changed)
    exact ⟨hs, hd, hphase, hbit, hclock, hch, expected⟩

end Sys2Proof.Machine
end

section
/-!
The stop sequence and the commands (R261 to R274): what each continuation of a completed stop sequence leaves behind,
the Tick and the frame that complete one, and the commands, the guard of R261 said once for the seven under it.
-/

namespace Sys2Proof.Machine

/-! ### The stop sequence (R272, R273) -/

theorem stopComplete_done (s : State) : stopComplete .done s = { s with
    stopReq := false
    mode := .none
    shared := Six.fill 0
    counter := 0
    zeroPending := false
    seq := .none
    out := s.out ++ [.resp .ok []] } := rfl

theorem stopComplete_parse (s : State) : stopComplete .parse s = { s with
    stopReq := false
    mode := .none
    shared := Six.fill 0
    counter := 0
    zeroPending := false
    ctl := .uninitialized
    calCount := 0
    phase := .idle
    seq := .parse } := rfl

theorem finishStartSync_eq (s : State) : finishStartSync s = { s with
    expect := .forceX
    fil := Six.fill 0
    off := Six.fill 0
    alphaL := s.alpha
    phase := .idle
    decActive := true
    mode := .sync
    seq := .none
    out := s.out ++ [.resp .ok []] } := rfl

theorem finishStartAsync_eq (p : Word32) (s : State) : finishStartAsync p s = { s with
    expect := .forceX
    fil := Six.fill 0
    off := Six.fill 0
    alphaL := s.alpha
    phase := .idle
    decActive := true
    mode := .async
    period := p
    periodL := p
    asyncActive := true
    seq := .none
    out := s.out ++ [.push (sampleRecord s), .resp .ok []] } := by
  have pushes : s.out ++ [.push (sampleRecord s), .resp .ok []] =
      (s.out ++ [.push (sampleRecord s)]) ++ [.resp .ok []] := by simp
  rw [pushes]
  rfl

/-- The sample buffer being cleared, the first push of the restarted async agent is seven zeros (R272, R274). -/
theorem sampleRecord_clearShared (s : State) : sampleRecord (clearShared s) = [0, 0, 0, 0, 0, 0, 0] :=
  sampleRecord_zero rfl

/-- Settles O41: the beginning is the check of R272, and each completion is the cleared state going on as its
continuation says. -/
theorem stopSequenceSteps : Obligations.StopSequenceSteps := by
  refine fun s after =>
    ⟨stopBegin_running, stopBegin_idle, stopComplete_done s, stopComplete_parse s, ?_, fun p => ?_⟩
  · exact finishStartSync_eq (clearShared s)
  · rw [← sampleRecord_clearShared s]
    exact finishStartAsync_eq p (clearShared s)

/-! ### The Tick (R274) -/

theorem step_tick {s : State} {rest : List Event} (hi : s.input = .tick :: rest) :
    step s = .next (takeTick { s with input := rest }) := step_event hi

theorem takeTick_pushes {s : State} (ha : s.asyncActive = true) (hr : s.stopReq = false) :
    takeTick s = emitPush { s with periodL := s.period } := by simp [takeTick, ha, hr]

theorem takeTick_exits {s : State} (ha : s.asyncActive = true) (hr : s.stopReq = true) :
    takeTick s = stopCheck { s with asyncActive := false } := by simp [takeTick, ha, hr]

theorem takeTick_waits {s : State} (ha : s.asyncActive = true) (hr : s.stopReq = true) (hd : s.decActive = true) :
    takeTick s = { s with asyncActive := false } :=
  (takeTick_exits ha hr).trans (stopCheck_waiting (running_of_decActive hd))

theorem takeTick_completes {s : State} {after : AfterStop} (ha : s.asyncActive = true) (hr : s.stopReq = true)
    (hd : s.decActive = false) (hs : s.seq = .stopping after) :
    takeTick s = stopComplete after { s with asyncActive := false } :=
  (takeTick_exits ha hr).trans (stopCheck_exited hs (running_eq_false.mpr ⟨hd, rfl⟩))

/-- Settles O10: without a request the agent pushes; with one it exits, and the check waits for the decode loop or
completes the stop sequence. -/
theorem tickPushesOrExits : Obligations.TickPushesOrExits := by
  intro s rest ha hi
  rw [step_tick hi]
  refine ⟨fun hr => ?_, fun hr hd => ?_, fun after hr hd hs => ?_⟩
  · exact congrArg Host.Outcome.next (takeTick_pushes ha hr)
  · exact congrArg Host.Outcome.next (takeTick_waits ha hr hd)
  · exact congrArg Host.Outcome.next (takeTick_completes ha hr hd hs)

/-! ### The next frame ends the decode loop of a STOP (R221, R267) -/

/-- Before its loop top the decode loop writes the datapath, the expectation and the request it services, and leaves
everything else. -/
theorem LoopRule.writes_datapath {loop : State → State} (hl : LoopRule loop) (s : State) :
    ∃ raw dec fil off shared pending counter expect, loop s = { s with
      raw := raw
      dec := dec
      fil := fil
      off := off
      shared := shared
      zeroPending := pending
      counter := counter
      expect := expect } := by
  cases hl with
  | breaks => exact ⟨s.raw, s.dec, s.fil, s.off, s.shared, s.zeroPending, s.counter, _, rfl⟩
  | stores a b p =>
    rcases loopAxis_cases a b p s with ⟨_, e⟩ | ⟨_, e⟩
    · exact ⟨_, s.dec, s.fil, s.off, s.shared, s.zeroPending, s.counter, _, e⟩
    · exact ⟨s.raw, s.dec, s.fil, s.off, s.shared, s.zeroPending, s.counter, _, e⟩
  | completes p =>
    rcases loopMomentZ_cases p s with ⟨_, e⟩ | ⟨_, e⟩
    · obtain ⟨dec, fil, off, shared, completed⟩ := completeRevolution_keeps (storeRaw .momentZ p s)
      exact ⟨_, dec, fil, off, shared, false, _, _, e.trans completed⟩
    · exact ⟨s.raw, s.dec, s.fil, s.off, s.shared, s.zeroPending, s.counter, _, e⟩

/-- Outside a parse a frame of any channel is a rule of the decode loop and then the loop top (R137, R220). -/
theorem exec_frame_loop {s : State} {i : Instr} (hi : isStrayFrame i = true ∨ ∃ a v, i = .calibration a v)
    (hs : s.seq ≠ .parse) (hd : s.decActive = true) :
    ∃ loop, LoopRule loop ∧ exec i s = .next (loopTop (loop s)) := by
  rcases hi with stray | ⟨a, v, rfl⟩
  · obtain ⟨loop, rule, exec_eq⟩ := exec_strayFrame_rule stray
    exact ⟨loop, rule, by rw [exec_eq, inContext_loop hs hd]⟩
  · exact ⟨sequenceBreak, .breaks, by rw [exec_calibration, inContext_loop hs hd]⟩

/-- Where a stop sequence waits for the decode loop alone, the loop top that observes the request completes it. -/
theorem loopTop_completes {s : State} {after : AfterStop} (hs : s.seq = .stopping after) (ha : s.asyncActive = false)
    (observed : observesStop s = true) :
    loopTop s = stopComplete after { s with alphaL := s.alpha, decActive := false } :=
  (loopTop_exits observed).trans (stopCheck_exited hs (running_eq_false.mpr ⟨rfl, ha⟩))

/-- Settles O42: whatever the frame does to the datapath, its loop top observes the request and completes the stop
sequence. -/
theorem stopCompletesAtTheNextFrame : Obligations.StopCompletesAtTheNextFrame := by
  intro s t i hi hs hd ha hr hframe ht
  obtain ⟨loop, rule, exec_eq⟩ := exec_frame_loop hi (by simp [hs]) hd
  obtain ⟨raw, dec, fil, off, shared, pending, counter, expect, written⟩ := rule.writes_datapath s
  have completed := (congrArg loopTop written).trans
    (loopTop_completes hs ha (observesStop_iff.mpr ⟨hr, .inl hframe⟩))
  rw [exec_eq, completed, stopComplete_done] at ht
  cases ht
  exact ⟨rfl, rfl, ha, rfl, rfl, rfl, rfl, rfl, rfl, rfl⟩

/-! ### The guarded commands (R261) -/

/-- The instruction is a guarded command whose meaning in READY is `f`. -/
def RunsGuarded (i : Instr) (f : State → State) : Prop := ∀ s, exec i s = .next (guarded f s)

theorem RunsGuarded.ready {i : Instr} {f : State → State} {s : State} (h : RunsGuarded i f) (hs : s.seq = .none)
    (hc : s.ctl = .ready) : exec i s = .next (f s) := by
  rw [h s, guarded_ready hs hc]

theorem RunsGuarded.refused {i : Instr} {f : State → State} {s : State} (h : RunsGuarded i f) (hs : s.seq = .none)
    (hc : s.ctl = .uninitialized) : exec i s = .next { s with out := s.out ++ [.resp .notInitialized []] } := by
  rw [h s, guarded_uninitialized hs hc]
  rfl

theorem runsGuarded_setFilter (u c : Word16) : RunsGuarded (.setFilter u c) fun s =>
    emitResp .ok [] { s with cutoff := c, alpha := alphaOf s.cfg.fsHz c } := fun _ => rfl

theorem runsGuarded_calibrate (a : Word32) :
    RunsGuarded (.calibrate a) fun s => emitResp .ok [] (requestZero s) := fun _ => rfl

theorem runsGuarded_startSync (a : Word32) :
    RunsGuarded (.startSync a) (restart .startSync finishStartSync) := fun _ => rfl

theorem runsGuarded_startAsync (p : Word32) :
    RunsGuarded (.startAsync p) (restart (.startAsync p) (finishStartAsync p)) := fun _ => rfl

theorem runsGuarded_stop (a : Word32) : RunsGuarded (.stop a) (stopBegin .done) := fun _ => rfl

theorem runsGuarded_acquire (a : Word32) : RunsGuarded (.acquire a) fun s =>
    if s.decActive then emitResp .ok (sampleRecord s) s else refuse .notRunning s := fun _ => rfl

theorem runsGuarded_getFullScales (a : Word32) :
    RunsGuarded (.getFullScales a) fun s => emitResp .ok s.fs.toList s := fun _ => rfl

/-- Settles O43: the seven are the guarded commands. -/
theorem uninitializedRefusesCommands : Obligations.UninitializedRefusesCommands := by
  intro s a u c i hi hs hc
  rcases hi with rfl | rfl | rfl | rfl | rfl | rfl | rfl
  · exact (runsGuarded_setFilter u c).refused hs hc
  · exact (runsGuarded_calibrate a).refused hs hc
  · exact (runsGuarded_startSync a).refused hs hc
  · exact (runsGuarded_startAsync a).refused hs hc
  · exact (runsGuarded_stop a).refused hs hc
  · exact (runsGuarded_acquire a).refused hs hc
  · exact (runsGuarded_getFullScales a).refused hs hc

/-- Settles O46: both are guarded commands that answer at once. -/
theorem setFilterAndCalibrateTakeEffect : Obligations.SetFilterAndCalibrateTakeEffect := by
  intro s a u c hs
  have filter := runsGuarded_setFilter u c
  have calibrate := runsGuarded_calibrate a
  exact ⟨fun hc => ⟨filter.ready hs hc, calibrate.ready hs hc⟩,
    fun hc => ⟨filter.refused hs hc, calibrate.refused hs hc⟩⟩

/-! ### Starting and stopping (R262, R265 to R267) -/

theorem restart_running {s : State} {after : AfterStop} {start : State → State} (h : running s = true) :
    restart after start s = { s with seq := .stopping after, stopReq := true } :=
  (if_pos h).trans (stopBegin_running h)

theorem restart_idle {s : State} {after : AfterStop} {start : State → State} (h : running s = false) :
    restart after start s = start s := by
  simp [restart, h]

theorem exec_initialize_idle {s : State} (hs : s.seq = .none) (a : Word32) :
    exec (.initializeCmd a) s = .next (stopBegin .parse s) := congrArg Host.Outcome.next (onPort_idle hs)

/-- Settles O45: at an idle port INITIALIZE begins the stop sequence that the parse follows. -/
theorem initializeStopsAndParses : Obligations.InitializeStopsAndParses := by
  intro s a hs
  rw [exec_initialize_idle hs]
  refine ⟨fun hr => ?_, fun hr => ?_⟩
  · rw [stopBegin_idle hr, stopComplete_parse]
  · rw [stopBegin_running hr]

/-- Settles O47: the start procedure runs at once and leaves the sequencer idle, as it was. -/
theorem startSyncStartsTheLoop : Obligations.StartSyncStartsTheLoop := by
  intro s a hs hc hr
  rw [(runsGuarded_startSync a).ready hs hc, restart_idle hr, finishStartSync_eq, hs]

/-- Settles O48: as `startSyncStartsTheLoop`, with the period and the push of the sample record. -/
theorem startAsyncStartsBothAgents : Obligations.StartAsyncStartsBothAgents := by
  intro s p hs hc hr
  rw [(runsGuarded_startAsync p).ready hs hc, restart_idle hr, finishStartAsync_eq, sampleRecord, hs]

/-- Settles O49: with an agent running both go through the stop sequence. -/
theorem startWhileRunningStopsFirst : Obligations.StartWhileRunningStopsFirst := by
  intro s a hs hc hr
  rw [(runsGuarded_startSync a).ready hs hc, (runsGuarded_startAsync a).ready hs hc]
  exact ⟨congrArg Host.Outcome.next (restart_running hr), congrArg Host.Outcome.next (restart_running hr)⟩

/-- Settles O50: STOP is the stop sequence that nothing but the answer follows. -/
theorem stopCompletesOrWaits : Obligations.StopCompletesOrWaits := by
  intro s a hs hc
  rw [(runsGuarded_stop a).ready hs hc]
  refine ⟨fun hr => ?_, fun hr => ?_⟩
  · rw [stopBegin_idle hr, stopComplete_done, hs]
  · rw [stopBegin_running hr]

/-! ### Reading (R268 to R270) -/

theorem exec_acquire_notRunning {s : State} (hs : s.seq = .none) (hc : s.ctl = .ready) (hd : s.decActive = false)
    (a : Word32) : exec (.acquire a) s = .next (refuse .notRunning s) := by
  rw [(runsGuarded_acquire a).ready hs hc, hd, if_neg Bool.false_ne_true]

/-- Settles O51: the loop's running decides between the sample record, whose seven words are written out, and the
refusal. -/
theorem acquireReadsTheSample : Obligations.AcquireReadsTheSample := by
  intro s a hs hc
  exact ⟨fun hd => exec_acquire_running hs hc hd a, fun hd => exec_acquire_notRunning hs hc hd a⟩

theorem ControllerState.code_eq (c : ControllerState) : c.code = if c = .ready then 1 else 0 := by
  cases c <;> rfl

theorem exec_getState_idle {s : State} (hs : s.seq = .none) (a : Word32) :
    exec (.getState a) s = .next (emitResp .ok [s.ctl.code] s) := congrArg Host.Outcome.next (onPort_idle hs)

/-- Settles O52: GET_FULL_SCALES is guarded, GET_STATE is not. -/
theorem gettersAnswer : Obligations.GettersAnswer := by
  intro s a hs
  refine ⟨fun hc => (runsGuarded_getFullScales a).ready hs hc, ?_⟩
  rw [exec_getState_idle hs, ControllerState.code_eq]
  rfl

end Sys2Proof.Machine
end

section
/-!
What stands in the place of exceptions (R300, R301, R307): every run goes on, and an instruction that is answered with
another status than OK is refused at an idle port. Only the guard of R261 and ACQUIRE refuse; the stop sequence, the
frames and the probe answer OK or nothing.
-/

namespace Sys2Proof.Machine

/-! ### Runs (R300) -/

/-- Settles O7: by induction on the number of steps, from every state, as every step has a next state. -/
theorem everyRunGoesOn : Obligations.EveryRunGoesOn := by
  intro n
  induction n with
  | zero => exact fun s => ⟨s, rfl⟩
  | succ n ih =>
    intro s
    obtain ⟨t, ht⟩ := step_next s
    rw [run_succ ht]
    exact ih t

/-! ### Answering OK or nothing -/

/-- Every response among the records has the status OK (R104). -/
def OnlyOk (new : List Output) : Prop := ∀ st ws, .resp st ws ∈ new → st = .ok

/-- From `s` to `t` no response with another status than OK is emitted. -/
def EmitsOnlyOk (s t : State) : Prop := ∃ new, Emits new s t ∧ OnlyOk new

theorem onlyOk_nil : OnlyOk [] := by simp [OnlyOk]

theorem onlyOk_ok (ws : List Word16) : OnlyOk [.resp .ok ws] := by simp [OnlyOk]

theorem onlyOk_push_ok (record ws : List Word16) : OnlyOk [.push record, .resp .ok ws] := by simp [OnlyOk]

theorem OnlyOk.append {as bs : List Output} (ha : OnlyOk as) (hb : OnlyOk bs) : OnlyOk (as ++ bs) :=
  fun st ws h => (List.mem_append.mp h).elim (ha st ws) (hb st ws)

theorem Emits.emitsOnlyOk_nil {s t : State} (h : Emits [] s t) : EmitsOnlyOk s t := ⟨[], h, onlyOk_nil⟩

theorem Emits.emitsOnlyOk_ok {ws : List Word16} {s t : State} (h : Emits [.resp .ok ws] s t) : EmitsOnlyOk s t :=
  ⟨_, h, onlyOk_ok ws⟩

theorem EmitsOnlyOk.refl (s : State) : EmitsOnlyOk s s := Emits.emitsOnlyOk_nil (emits_nil rfl rfl rfl)

theorem EmitsOnlyOk.after {s t u : State} (h' : EmitsOnlyOk t u) (h : EmitsOnlyOk s t) : EmitsOnlyOk s u :=
  let ⟨_, he, hok⟩ := h
  let ⟨_, he', hok'⟩ := h'
  ⟨_, he.trans he', hok.append hok'⟩

theorem finishStartAsync_emitsOnlyOk (p : Word32) (s : State) : EmitsOnlyOk s (finishStartAsync p s) :=
  ⟨[.push (sampleRecord (startAsyncAgent p s)), .resp .ok []],
    ⟨rfl, rfl, by simp [finishStartAsync]⟩, onlyOk_push_ok _ _⟩

theorem stopComplete_emitsOnlyOk (after : AfterStop) (s : State) : EmitsOnlyOk s (stopComplete after s) := by
  refine EmitsOnlyOk.after ?_ (emits_clearShared s).emitsOnlyOk_nil
  cases after with
  | done => exact Emits.emitsOnlyOk_ok ⟨rfl, rfl, rfl⟩
  | parse => exact Emits.emitsOnlyOk_nil (emits_nil rfl rfl rfl)
  | startSync => exact (emits_finishStartSync _).emitsOnlyOk_ok
  | startAsync p => exact finishStartAsync_emitsOnlyOk p _

theorem stopBegin_emitsOnlyOk (after : AfterStop) (s : State) : EmitsOnlyOk s (stopBegin after s) := by
  rcases stopBegin_cases after s with ⟨_, e⟩ | ⟨_, e⟩ <;> rw [e]
  · exact Emits.emitsOnlyOk_nil (emits_nil rfl rfl rfl)
  · exact (stopComplete_emitsOnlyOk after _).after (Emits.emitsOnlyOk_nil (emits_nil rfl rfl rfl))

theorem restart_emitsOnlyOk {after : AfterStop} {start : State → State} {s : State}
    (h : EmitsOnlyOk s (start s)) : EmitsOnlyOk s (restart after start s) := by
  rcases restart_cases after start s with ⟨_, e⟩ | ⟨_, e⟩ <;> rw [e]
  · exact Emits.emitsOnlyOk_nil (emits_nil rfl rfl rfl)
  · exact h

theorem loopTop_emitsOnlyOk (s : State) : EmitsOnlyOk s (loopTop s) := by
  rcases loopTop_cases s with ⟨_, e⟩ | ⟨_, e, _⟩ | ⟨_, _, after, _, e⟩ <;> rw [e]
  · exact Emits.emitsOnlyOk_nil (emits_nil rfl rfl rfl)
  · exact Emits.emitsOnlyOk_nil (emits_nil rfl rfl rfl)
  · exact (stopComplete_emitsOnlyOk after _).after (Emits.emitsOnlyOk_nil (emits_nil rfl rfl rfl))

theorem ParserRule.emitsOnlyOk {parser : State → State} (hp : ParserRule parser) (s : State) :
    EmitsOnlyOk s (parser s) := by
  cases hp with
  | discard => exact .refl s
  | byte a v =>
    rcases parseByte_cases a v s with ⟨_, e⟩ | ⟨_, _, e⟩ | ⟨_, _, e⟩ <;> rw [e]
    · exact .refl s
    · exact Emits.emitsOnlyOk_nil (emits_nil rfl rfl rfl)
    · exact Emits.emitsOnlyOk_ok ⟨rfl, rfl, rfl⟩

theorem LoopRule.quiet {loop : State → State} (hl : LoopRule loop) (s : State) : LoopQuiet s (loop s) := by
  cases hl with
  | breaks => exact sequenceBreak_quiet s
  | stores a b p => exact loopAxis_quiet a b p s
  | completes p => exact loopMomentZ_quiet p s

theorem exec_frame_emitsOnlyOk {i : Instr} (hi : ∃ f, encode i = .frame f) {s t : State}
    (h : exec i s = .next t) : EmitsOnlyOk s t := by
  obtain ⟨parser, loop, hparser, hloop, e⟩ := exec_frame_rules hi
  rw [e] at h
  cases h
  rcases inContext_cases parser loop s with ⟨_, e⟩ | ⟨_, _, e⟩ | ⟨_, _, e⟩ <;> rw [e]
  · exact hparser.emitsOnlyOk s
  · exact (loopTop_emitsOnlyOk _).after (hloop.quiet s).silent.emitsOnlyOk_nil
  · exact .refl s

/-- The probe's word is the result, not a refusal: its status is OK both ways (R143, R303). -/
theorem probeSample_emitsOnlyOk (c : Bool) (s : State) : EmitsOnlyOk s (probeSample c s) := by
  rcases probeSample_cases c s with ⟨_, e⟩ | ⟨_, _, _, e⟩ | ⟨_, _, _, e⟩ | ⟨_, _, _, e⟩ <;> rw [e]
  · exact .refl s
  · exact Emits.emitsOnlyOk_ok ⟨rfl, rfl, rfl⟩
  · exact Emits.emitsOnlyOk_ok ⟨rfl, rfl, rfl⟩
  · exact Emits.emitsOnlyOk_nil (emits_nil rfl rfl rfl)

theorem exec_line_emitsOnlyOk {c d : Bool} {s t : State} (h : exec (.line c d) s = .next t) :
    EmitsOnlyOk s t := by
  change execLine c d s = .next t at h
  refine EmitsOnlyOk.after ?_ (probeSample_emitsOnlyOk c s)
  rcases execLine_cases c d s with ⟨ph, b, a, e⟩ | ⟨_, _, _, _, e⟩ <;> rw [e] at h
  · cases h
    exact Emits.emitsOnlyOk_nil (emits_nil rfl rfl rfl)
  · exact (exec_frame_emitsOnlyOk (encode_decodeFrame_isFrame _) h).after
      (Emits.emitsOnlyOk_nil (emits_nil rfl rfl rfl))

/-! ### Refusals (R301, R307) -/

/-- `t` is `s` after a command that an idle port refused. -/
structure Refused (s t : State) : Prop where
  idle : s.seq = .none
  refuses : ∃ st, t = refuse st s

/-- An instruction answers OK or nothing, or it is refused. -/
def OkOrRefused (s t : State) : Prop := EmitsOnlyOk s t ∨ Refused s t

theorem onPort_okOrRefused {f : State → State} {s : State} (h : EmitsOnlyOk s (f s)) :
    OkOrRefused s (onPort f s) := by
  rcases onPort_cases f s with ⟨_, e⟩ | ⟨_, e⟩ <;> rw [e]
  · exact .inl (.refl s)
  · exact .inl h

theorem guarded_okOrRefused {f : State → State} {s : State} (h : s.seq = .none → OkOrRefused s (f s)) :
    OkOrRefused s (guarded f s) := by
  rcases guarded_cases f s with ⟨_, e⟩ | ⟨hs, _, e⟩ | ⟨hs, _, e⟩ <;> rw [e]
  · exact .inl (.refl s)
  · exact .inr ⟨hs, _, rfl⟩
  · exact h hs

theorem RunsGuarded.okOrRefused {i : Instr} {f : State → State} {s t : State} (hi : RunsGuarded i f)
    (hf : s.seq = .none → OkOrRefused s (f s)) (h : exec i s = .next t) : OkOrRefused s t := by
  rw [hi s] at h
  cases h
  exact guarded_okOrRefused hf

/-- ACQUIRE is the one command that refuses in READY: the loop does not run (R268). -/
theorem acquire_okOrRefused {s : State} (hs : s.seq = .none) :
    OkOrRefused s (if s.decActive then emitResp .ok (sampleRecord s) s else refuse .notRunning s) := by
  split
  · exact .inl (emits_emitResp _ _ s).emitsOnlyOk_ok
  · exact .inr ⟨hs, _, rfl⟩

theorem exec_okOrRefused {i : Instr} {s t : State} (h : exec i s = .next t) : OkOrRefused s t := by
  cases i
  case line c d => exact .inl (exec_line_emitsOnlyOk h)
  case initializeCmd a => cases h; exact onPort_okOrRefused (stopBegin_emitsOnlyOk .parse s)
  case setFilter u c =>
    exact (runsGuarded_setFilter u c).okOrRefused (fun _ => .inl (Emits.emitsOnlyOk_ok ⟨rfl, rfl, rfl⟩)) h
  case calibrate a =>
    exact (runsGuarded_calibrate a).okOrRefused (fun _ => .inl (Emits.emitsOnlyOk_ok ⟨rfl, rfl, rfl⟩)) h
  case startSync a =>
    exact (runsGuarded_startSync a).okOrRefused
      (fun _ => .inl (restart_emitsOnlyOk (emits_finishStartSync s).emitsOnlyOk_ok)) h
  case startAsync p =>
    exact (runsGuarded_startAsync p).okOrRefused
      (fun _ => .inl (restart_emitsOnlyOk (finishStartAsync_emitsOnlyOk p s))) h
  case stop a => exact (runsGuarded_stop a).okOrRefused (fun _ => .inl (stopBegin_emitsOnlyOk .done s)) h
  case acquire a => exact (runsGuarded_acquire a).okOrRefused acquire_okOrRefused h
  case getFullScales a =>
    exact (runsGuarded_getFullScales a).okOrRefused (fun _ => .inl (emits_emitResp _ _ s).emitsOnlyOk_ok) h
  case getState a => cases h; exact onPort_okOrRefused (emits_emitResp _ _ s).emitsOnlyOk_ok
  case isConnected a => cases h; exact onPort_okOrRefused (Emits.emitsOnlyOk_nil (emits_nil rfl rfl rfl))
  all_goals exact .inl (exec_frame_emitsOnlyOk ⟨_, rfl⟩ h)

/-- Settles O44: an instruction whose new records hold another status than OK was refused, and a refusal appends its one
response at an idle port and does nothing else. -/
theorem refusalsChangeNothing : Obligations.RefusalsChangeNothing := by
  intro i s t new st ws h hout hmem hst
  rcases exec_okOrRefused h with ⟨emitted, he, hok⟩ | ⟨hs, refusal, rfl⟩
  · have same : new = emitted := List.append_cancel_left (hout.symm.trans he.out)
    exact absurd (hok st ws (same ▸ hmem)) hst
  · have one : new = [.resp refusal []] := List.append_cancel_left hout.symm
    subst one
    obtain ⟨rfl, rfl⟩ : st = refusal ∧ ws = [] := by simpa using hmem
    exact ⟨rfl, rfl, rfl, hs⟩

end Sys2Proof.Machine
end

section
/-!
The Reset event (R340) as one equation: the registers come from R50's table, the model's own fields from the state that
takes the event.
-/

namespace Sys2Proof.Machine

/-- What a Reset keeps, once its event is taken from the queue: the parameters and the records emitted so far (log 14). -/
theorem takeReset_withInput (s : State) (rest : List Event) :
    takeReset { s with input := rest } =
      { State.reset with cfg := s.cfg, input := rest, out := s.out } := rfl

/-- Settles O11: a step at a Reset event is `takeReset` with the event taken, which reads no register of the state. -/
theorem resetEventRestoresReset : Obligations.ResetEventRestoresReset := by
  intro s rest hi
  rw [step_reset hi, takeReset_withInput]

end Sys2Proof.Machine
end
